-- ==== Sys2Proof/Word.lean ====
section
/-! DEFINITION. The words of the ALV-416: the widths the manual gives its bytes, cycle counts, speeds and station sets
(0.5.1, 0.5.2, 0.5.4). Only type names stand here; every operation on them is in a file under Machine/. -/

namespace Sys2Proof

/-- One byte, on the line bus and on the local port alike (0.5.6). -/
abbrev Byte := BitVec 8

/-- A cycle count: 16 bits wide, wrapping from 65535 to 0, with every addition modulo 65536 (0.5.2). -/
abbrev Cycle := BitVec 16

/-- A line speed or target as it is carried: 16 bits, in speed units (0.5.4). -/
abbrev Speed := BitVec 16

/-- A line position or a section position: 32 bits, modulo 2^32 (0.5.4). -/
abbrev Position := BitVec 32

/-- A set of stations: the 16-bit map in which bit k−1 stands for station k (0.5.1). -/
abbrev StationSet := BitVec 16

/-- A station, by its strap value: the station number 1..16 less one (0.5.1, R167). -/
abbrev Station := Fin 16

end Sys2Proof
end

