-- ==== Sys2Proof/Config.lean ====
section
/-! DEFINITION. What the part fixes for every station (Table 0-6), and the one value the manual leaves without a statement. -/

namespace Sys2Proof.Config

/-- The transmit offset, in microseconds after the own-slot start (R123). -/
def transmitOffset : Nat := 8

/-- The slots of a cycle (0.6). -/
def slotsPerCycle : Nat := 16

/-- The listen window, in slot lengths: two cycles (R92). -/
def listenWindowSlots : Nat := 32

/-- The longest slot the configuration store accepts, in microseconds (R134). -/
def maxSlotLength : Nat := 5000

/-- The own-slot collisions in a row that isolate a station (R102). -/
def collisionLimit : Nat := 3

/-- The excluding cycles in a row that make a member JOINING (R98). -/
def exclusionLimit : Nat := 2

/-- The own frames that carry a decision (R33), and the LEAVING frames a leaving station sends (R105). -/
def announcementLimit : Nat := 2

/-- The notices the queue holds (R160). -/
def noticeCapacity : Nat := 24

/-- The processing of a taken request is over this many microseconds after the rise of CS_N at the latest (R153). -/
def processingLimit : Nat := 25

/-- The fixed part of a status frame, in bytes (R109). -/
def fixedPart : Nat := 28

/-- The bits of a bus character (R122). -/
def bitsPerCharacter : Nat := 11

/-- The largest body of a request (R152). -/
def maxBody : Nat := 48

/-- FREE VALUE (DESIGN CHOICE, log entry 3): the two bytes of the setpoint record's F field where F is above 65535. R139 gives
F 0..65533 because S stays within Smax (R3); a peer's frame that carries a speed above Smax can break that through the observed
view, and the manual states no bytes for it. -/
opaque oversizeF : Nat → BitVec 16

end Sys2Proof.Config
end

