-- ==== Sys2Proof/Machine/Bytes.lean ====
section
/-! DEFINITION. Byte order and the CRC: multi-byte fields most significant byte first (0.5.6), and the line bus CRC (R127). -/

namespace Sys2Proof.Machine
open Sys2Proof

/-- The byte at an offset of a layout (12.1); 0 past its end, which no caller reads. -/
def byteAt (bytes : List Byte) (offset : Nat) : Byte := bytes.getD offset 0

/-- A 2-byte field, most significant byte first (0.5.6). -/
def halfAt (bytes : List Byte) (offset : Nat) : BitVec 16 :=
  byteAt bytes offset ++ byteAt bytes (offset + 1)

/-- A 4-byte field, most significant byte first (0.5.6). -/
def wordAt (bytes : List Byte) (offset : Nat) : BitVec 32 :=
  halfAt bytes offset ++ halfAt bytes (offset + 2)

/-- The bytes of a 2-byte field in the order they are sent (0.5.6). -/
def halfBytes (w : BitVec 16) : List Byte := [w.extractLsb' 8 8, w.extractLsb' 0 8]

/-- The bytes of a 4-byte field in the order they are sent (0.5.6). -/
def wordBytes (w : BitVec 32) : List Byte := halfBytes (w.extractLsb' 16 16) ++ halfBytes (w.extractLsb' 0 16)

/-- A flag as a bit at a position of a flags byte. -/
def flagBit (position : Nat) (flag : Bool) : Byte := if flag then (1 : Byte) <<< position else 0

/-- One of the eight shifts of R127. -/
def crcShift (register : BitVec 16) : BitVec 16 :=
  if register.msb then (register <<< 1) ^^^ 0x1021 else register <<< 1

/-- One byte taken into the CRC register (R127). -/
def crcByte (register : BitVec 16) (byte : Byte) : BitVec 16 :=
  Nat.repeat crcShift 8 (register ^^^ (byte.setWidth 16 <<< 8))

/-- The line bus CRC over a run of bytes (R127). -/
def crc (bytes : List Byte) : BitVec 16 := bytes.foldl crcByte 0xFFFF

/-- The sum of a run of bytes modulo 256 (R151, R152). -/
def byteSum (bytes : List Byte) : Byte := bytes.foldl (· + ·) 0

/-- The check byte that makes the sum of an envelope 0 modulo 256 (R151, R152). -/
def checkByte (bytes : List Byte) : Byte := - byteSum bytes

end Sys2Proof.Machine
end

