-- ==== Sys2Proof/Syntax.lean ====
section
/-! DEFINITION. The commands of the ALV-416: one constructor of `Instr` for each row of spec/opcode_table.json, in the
table's order, with the operands that row takes from outside. -/

namespace Sys2Proof

/-- The 39-byte configuration record that CONFIGURE carries, field by field, as the bytes give them and before any check
(Table 11-1, Table 12-6). Every bit of the 39 bytes lies in one field. -/
structure ConfigRecord where
  /-- Index 1. -/
  rateCode : BitVec 8
  /-- Index 2, in microseconds. -/
  slotLength : BitVec 16
  /-- Index 3. -/
  smax : BitVec 16
  /-- Index 4, the ramp step A. -/
  rampStep : BitVec 16
  /-- Index 5, the stop step D. -/
  stopStep : BitVec 16
  /-- Index 6, the missed limit M. -/
  missedLimit : BitVec 8
  /-- Index 7, the offer deadline Toffer. -/
  offerDeadline : BitVec 8
  /-- Index 8, in 1/16384. -/
  draw : BitVec 16
  /-- Index 9, in 1/256. -/
  kp : BitVec 16
  /-- Index 10, in 1/256. -/
  ki : BitVec 8
  /-- Index 11. -/
  imax : BitVec 16
  /-- Index 12. -/
  trimMax : BitVec 16
  /-- Index 13, in 1/32768. -/
  kf : BitVec 16
  /-- Index 14, the lag limit L1. -/
  lagLimit : BitVec 32
  /-- Index 15, the lag release level L2. -/
  lagRelease : BitVec 32
  /-- Index 16, the lag count N. -/
  lagCount : BitVec 8
  /-- Index 17. -/
  ssMax : BitVec 16
  /-- Index 18, the report timeout Nrep. -/
  reportTimeout : BitVec 8
  /-- Index 19. -/
  sti0 : BitVec 8
  /-- Index 20. -/
  sti1 : BitVec 8
  /-- Index 21. -/
  sti2 : BitVec 8
  /-- Index 22. -/
  sti3 : BitVec 8
  /-- Index 23. -/
  attentionMask : BitVec 8
  deriving DecidableEq, Repr

/-- Why a frame in receipt is abandoned (Table 7-4, but for the gap, which has a command of its own). -/
inductive AbandonReason where
  | headerMidFrame
  | framingError
  | crcDifference
  | lengthFailure
  | ownTransmission
  deriving DecidableEq, Repr

/-- The order in which the owners take the parts of one frame, which R118 leaves open but for two exceptions: the stop part
precedes the hold part, and the stop part's late stop precedes the reference unit's own work. With the stop part (S) before the hold
part (H) and the reference part (R), these and the agreement part (A) have eight orders: H before R or R before H, and A in any of
the four places (DESIGN CHOICE: the command says which, log entry 11). S before R is the model's choice on a frame whose stop part calls for
no late stop: there R118 allows R before S too, and no command says that order (DESIGN CHOICE, log entry 11). -/
structure PartOrder where
  /-- Is the reference part taken before the hold part? -/
  referenceFirst : Bool
  /-- How many of the three other parts precede the agreement part. -/
  agreementPlace : Fin 4
  deriving DecidableEq, Repr

/-- The commands: one constructor per row of spec/opcode_table.json. A row that the section controller's SPI transaction
carries stands for the rise of CS_N with that request's envelope (R152). -/
inductive Instr where
  /-- R88: the supply comes up. -/
  | powerOn
  /-- R88: RESET_N goes low. -/
  | resetN
  /-- R88, R167: a reset completes, with STRAP0..STRAP3 at these levels (bit n is STRAPn). -/
  | resetComplete (straps : BitVec 4)
  /-- R54: stop input pin `input` has held the level `high` for 10 us. -/
  | stopInputRecognised (input : Fin 4) (high : Bool)
  /-- R151: CS_N falls. -/
  | transactionStart
  /-- R152: CS_N rises after this many whole bytes, fewer than 3. -/
  | shortTransaction (wholeBytes : Nat)
  /-- R152: CS_N rises after a malformed envelope, or one whose length does not suit its kind; the kind byte shifted in. -/
  | badFormat (kind : Byte)
  /-- R152: CS_N rises after an envelope whose kind byte names no request. -/
  | unknownRequest (kind : Byte)
  /-- R154: CS_N rises at the end of a transaction that began while a request was in processing. -/
  | transactionDiscarded
  | nop
  /-- R169. -/
  | configure (record : ConfigRecord)
  | join
  | leave
  /-- R26: with the target requested. -/
  | offerStart (target : Speed)
  /-- R26: with the target requested. -/
  | offerRamp (target : Speed)
  | withdrawOffer
  | raiseStop
  | clearStop
  | setHold
  | releaseHold
  /-- R136: with the section position and the flags byte, whose bit 0 is DRIVE_READY. -/
  | report (position : Position) (flags : Byte)
  | readSetpoint
  | readStatus
  /-- R86: with the station number named. -/
  | readRoster (number : Byte)
  /-- R48: with the origin named. -/
  | readProposal (origin : Byte)
  | readNotice
  | readConfig
  | restart
  /-- R123: 8 us have passed since the own-slot start. -/
  | transmitOffset
  /-- R124: the character in collision has been sent to the end of its stop bit. -/
  | collision
  /-- R102: the life-cycle controller takes a collision count of 3. -/
  | busFault
  /-- R123: the last stop bit of the own frame ends. -/
  | transmitEnd
  /-- R128: the watch after the expected length ends with no start bit; the owners take the parts in this order. -/
  | receivedWhole (order : PartOrder)
  /-- R129: more than 22 bit times have passed since the last character. -/
  | gap
  /-- R129: the frame in receipt fails for this reason. -/
  | frameAbandoned (why : AbandonReason)
  /-- R131: the end of this slot. -/
  | slotClose (slot : Station)
  /-- R77: the roster takes the missed count of this station's entry reaching M. -/
  | missedLimit (station : Station)
  | leavingComplete
  | withdrawnEntryRemoved
  /-- R131: the end of slot 16. Where the boundary excludes the station, R98 lets the change come before or after the
  reference unit's work; `exclusionFirst` says which (DESIGN CHOICE, log entry 11). -/
  | cycleBoundary (exclusionFirst : Bool)
  | lagHold
  | localSilent
  | expired
  | gracePeriod
  | excluded
  | quietCountExpiry
  | ownSlotStart
  | listenWindowExpiry
  | responseReady
  /-- R128: a character is received on BRX with a good stop bit: its data byte and its mark bit. -/
  | characterReceived (data : Byte) (mark : Bool)
  deriving DecidableEq, Repr

end Sys2Proof
end

