-- ==== Sys2Proof/Machine/State.lean ====
section
/-! DEFINITION. The state of the ALV-416 as plain data, block by block as Table 0-1 divides it, and the state right after
reset. Nothing is computed here. -/

namespace Sys2Proof.Machine
open Sys2Proof

/-! ## Names and codes (their numeric codes stand in Machine/Codes.lean) -/

/-- The seven station states (Table 5-1). -/
inductive StationState where
  | unconfigured | idle | listening | joining | member | leaving | isolated
  deriving DecidableEq, Repr

/-- The ramp states (Table 1-2). -/
inductive RampState where
  | stopped | ramping | steady | held | stopping
  deriving DecidableEq, Repr

/-- Why the station last restarted (R88). -/
inductive RestartCause where
  | power | pin | request
  deriving DecidableEq, Repr

/-- Why the station last entered ISOLATED (Table 5-2; none is `Option.none`). -/
inductive IsolationCause where
  | collisions | duplicate
  deriving DecidableEq, Repr

/-- The stop causes (Table 3-2). -/
inductive StopCause where
  | stopInput (input : Fin 4)
  | localRequest | localSilent | driveFault | memberLost | divergence | missedChange | foreignIsland
  deriving DecidableEq, Repr

/-- The two kinds of offer (R22). -/
inductive OfferKind where
  | start | rampTo
  deriving DecidableEq, Repr

/-- The reasons of Table 2-3. -/
inductive Reason where
  | conflict | notStopped | notRunning | lineStopping | stopClaimed | outOfRange | membership
  deriving DecidableEq, Repr

/-- A voter's answer to an offer (R38). -/
inductive Verdict where
  | ack
  | refuse (why : Reason)
  deriving DecidableEq, Repr

/-- Why an own offer was withdrawn (Table 2-1). -/
inductive WithdrawReason where
  | refused | expired | originWithdrew | originLeaving
  deriving DecidableEq, Repr

/-- What a decision part says (R33). -/
inductive DecisionOutcome where
  | commit
  | withdraw (why : WithdrawReason)
  deriving DecidableEq, Repr

/-- The outcomes of an own offer (Table 2-5). -/
inductive OfferOutcome where
  | dropped | refused | expired | originWithdrew | originLeaving | applied | superseded | discarded
  deriving DecidableEq, Repr

/-- The results of a request (Table 9-5, Table 12-5). -/
inductive Result where
  | ok | wrongState | busy | badFormat | unknownRequest | outOfRange | conflict | notStopped | notRunning | lineStopping
  | stopClaimed | stillActive | tooLate | empty | badConfig
  deriving DecidableEq, Repr

/-- The roster entry states (Table 4-2). -/
inductive EntryState where
  | absent | candidate | member | mismatch | foreign
  deriving DecidableEq, Repr

/-- Why a member is removed (R78). -/
inductive RemovalReason where
  | missed | left | restarted
  deriving DecidableEq, Repr

/-- The stop input modes (Table 3-3). -/
inductive InputMode where
  | off | levelLow | levelHigh | edgeFall | edgeRise
  deriving DecidableEq, Repr

/-- The seventeen notice kinds (Table 12-13; R162 lists STOP_CLAIM twice). -/
inductive NoticeKind where
  | stopClaim | causeAlso | busFault | excluded | foreignIsland | duplicateStation
  | rampState | offerResult | changeApplied | memberAdded | memberRemoved | cycleMismatch | stationState
  | candidateHeard | configMismatch | peerRestarted | restarted
  deriving DecidableEq, Repr

/-- The three notice classes (10.3). -/
inductive NoticeClass where
  | alarm | line | info
  deriving DecidableEq, Repr

/-! ## The status frame (Chapter 6) -/

/-- The station states a frame can carry (Table 6-1). -/
inductive SenderState where
  | joining | member | leaving
  deriving DecidableEq, Repr

/-- The offer part (R111). -/
structure OfferPart where
  serial : Byte
  kind : OfferKind
  target : Speed
  firstOffered : Cycle
  voters : StationSet
  deriving DecidableEq, Repr

/-- The decision part (R111). -/
structure DecisionPart where
  serial : Byte
  outcome : DecisionOutcome
  effective : Cycle
  deriving DecidableEq, Repr

/-- One response (R111). -/
structure ResponsePart where
  origin : Station
  serial : Byte
  verdict : Verdict
  deriving DecidableEq, Repr

/-- The reference fields of a frame (Table 6-1): what the sender's record or observed view shows. -/
structure ReferencePart where
  ramp : RampState
  t : Speed
  s : Speed
  pLow : BitVec 16
  epoch : Byte
  stoppedSince : Cycle
  deriving DecidableEq, Repr

/-- A status frame as its fields (Table 6-1 and R111); the counts byte and the CRC follow from them. -/
structure Frame where
  station : Station
  cycle : Cycle
  state : SenderState
  digest : BitVec 16
  reference : ReferencePart
  members : StationSet
  stopCause : Option StopCause
  stopEffective : Cycle
  hold : Bool
  holdEffective : Cycle
  restartCause : Option RestartCause
  joiningSince : Cycle
  offer : Option OfferPart
  decision : Option DecisionPart
  responses : List ResponsePart
  deriving DecidableEq, Repr

/-! ## The blocks -/

/-- A character as the bus carries it: its data byte and its mark bit (R122). -/
structure BusCharacter where
  data : Byte
  mark : Bool
  deriving DecidableEq, Repr

/-- The transmit state (R121): idle, or sending the characters of an assembled frame. -/
inductive Transmit where
  | idle
  | sending (characters : List BusCharacter)
  deriving DecidableEq, Repr

/-- The frame in receipt (R108, R121): the bytes received so far, header first, and, once the expected length is reached, the
end time of the last character (R128). -/
structure Receipt where
  bytes : List Byte
  endTime : Option Nat
  deriving DecidableEq, Repr

/-- The bus port (R121). -/
structure BusPort where
  transmit : Transmit
  /-- Pin BDE, active. -/
  bde : Bool
  /-- Pin BTX rests at the idle level 1 (R121); while a frame is sent it carries the frame's bits. -/
  btxIdle : Bool
  receipt : Option Receipt
  /-- The consecutive collision count, 0..3 (R125). -/
  collisions : Nat
  deriving DecidableEq, Repr

/-- What the slot timer holds while its timing is present (Table 7-5). -/
structure Timing where
  /-- The slot reference: the start of slot `refSlot` of the current cycle, in whole microseconds. -/
  refStart : Int
  refSlot : Station
  currentSlot : Station
  /-- The slots whose close has been raised in the current cycle, or marked raised (R132). -/
  closesRaised : StationSet
  /-- Whether the own-slot start has been raised in the current cycle, or marked raised. -/
  ownStartRaised : Bool
  /-- The close of slot 16 and the boundary fall at one instant, and either may be taken first (R131). When the boundary is
  taken first, this holds the close still to come, with whether a frame of station 16 was heard in that slot. -/
  lateClose : Option Bool
  deriving DecidableEq, Repr

/-- The slot timer (R130). -/
structure SlotTimer where
  timing : Option Timing
  cycle : Cycle
  /-- The model's own: the clock that the slot timer's whole microseconds are read from (0.5.7; log entry 22). -/
  now : Nat
  /-- The model's own: a boundary has been raised at this instant, and the instant is not over (log entry 22). -/
  atBoundary : Bool
  deriving DecidableEq, Repr

/-- The assembled frame (R108), with the instant of the own-slot start it was made at. -/
structure Assembled where
  frame : Frame
  startedAt : Nat
  deriving DecidableEq, Repr

/-- The life-cycle controller (Table 5-2). -/
structure LifeCycle where
  state : StationState
  restartCause : RestartCause
  isolation : Option IsolationCause
  /-- The listen window timer, in microseconds; `none` is stopped. -/
  listenTimer : Option Nat
  quiet : Nat
  exclusion : Nat
  joiningSince : Option Cycle
  admitting : Option StationSet
  /-- While JOINING: a member frame has been heard in the current cycle (R96, R20). -/
  joinHeard : Bool
  /-- The exclusion evidence (R98): member frame heard. -/
  memberHeard : Bool
  /-- The exclusion evidence (R98): own number seen. -/
  ownSeen : Bool
  /-- The exclusion evidence (R98): the first member set of the cycle. -/
  firstSet : Option StationSet
  islandReported : StationSet
  mismatchReported : StationSet
  /-- LEAVING frames assembled since LEAVE was taken, 0..2. -/
  leavingFrames : Nat
  deriving DecidableEq, Repr

/-- The claims carried in a candidate's last JOINING frame (Table 4-1). -/
structure JoiningClaims where
  stop : Option (StopCause × Cycle)
  hold : Bool
  holdEffective : Cycle
  deriving DecidableEq, Repr

/-- A roster entry (Table 4-1). -/
structure RosterEntry where
  state : EntryState
  missed : Nat
  lastHeard : Cycle
  digestHeard : BitVec 16
  restartCause : Option RestartCause
  joiningSince : Option Cycle
  admissionDue : Option Cycle
  leaveDue : Option Cycle
  joiningClaims : Option JoiningClaims
  cycleMismatch : Bool
  deriving DecidableEq, Repr

/-- The roster (R69). The own number's place keeps its reset value here: what the own entry shows follows from the station
state (R70) and is computed by `State.rosterEntry`. -/
structure Roster where
  entries : Vector RosterEntry 16
  /-- The stations from which a frame that counted as heard was accepted in their own slot of the current cycle (R76). -/
  heard : StationSet
  deriving DecidableEq, Repr

/-- What an own entry holds from OFFERED on (Table 2-1). -/
structure Ballot where
  firstOffered : Cycle
  voters : StationSet
  acks : StationSet
  refusal : Option (Station × Reason)
  deriving DecidableEq, Repr

/-- The phase of the own entry, with the fields that phase has (Tables 2-1 and 2-2). -/
inductive OwnPhase where
  | queued
  | offered (ballot : Ballot)
  | committed (ballot : Ballot) (effective : Cycle) (announced : Nat)
  | withdrawn (ballot : Ballot) (why : WithdrawReason) (announced : Nat)
  deriving DecidableEq, Repr

/-- The own proposal entry (Table 2-1, fields "always" and "own"). -/
structure OwnEntry where
  serial : Byte
  kind : OfferKind
  target : Speed
  phase : OwnPhase
  deriving DecidableEq, Repr

/-- A proposal entry of another origin (Table 2-1, fields "always" and "others"). It is COMMITTED when `effective` is present
and OFFERED otherwise. -/
structure OtherEntry where
  origin : Station
  serial : Byte
  kind : OfferKind
  target : Speed
  firstOffered : Cycle
  voters : StationSet
  verdict : Option Verdict
  effective : Option Cycle
  deriving DecidableEq, Repr

/-- The agreement unit (R22): the proposal table, as the own entry and the others' entries in recording order, and the own
serial counter. -/
structure Agreement where
  own : Option OwnEntry
  others : List OtherEntry
  serial : Byte
  deriving DecidableEq, Repr

/-- The own stop claim while set (Table 3-1). -/
structure OwnStop where
  cause : StopCause
  effective : Option Cycle
  inForce : Bool
  reported : List StopCause
  deriving DecidableEq, Repr

/-- One stop input: its recognised level (absent: unknown; true: high) and its edge flag (R54, R55). -/
structure StopInput where
  level : Option Bool
  edgeFlag : Bool
  deriving DecidableEq, Repr

/-- A member's stop claim as last heard (Table 3-5). -/
structure HeardStop where
  cause : StopCause
  effective : Cycle
  inForce : Bool
  deriving DecidableEq, Repr

/-- A claim view record (Table 3-5). -/
structure ClaimRecord where
  stop : Option HeardStop
  hold : Bool
  pendingHold : Option (Bool × Cycle)
  deriving DecidableEq, Repr

/-- The claim unit (Chapter 3). The lag hold of Table 3-4 is held by the follower, which sets it (Table 8-1). -/
structure ClaimUnit where
  stop : Option OwnStop
  inputs : Vector StopInput 4
  manualHold : Bool
  announced : Bool
  announcedEffective : Option Cycle
  currentHold : Bool
  view : Vector (Option ClaimRecord) 16
  /-- Pin RUN_PERMIT, asserted (R67). -/
  runPermit : Bool
  deriving DecidableEq, Repr

/-- The line reference record (Table 1-1). -/
structure LineRecord where
  ramp : RampState
  s : Speed
  t : Speed
  p : Position
  epoch : Byte
  stoppedSince : Cycle
  deriving DecidableEq, Repr

/-- The reference unit (R1, R20). -/
structure ReferenceUnit where
  record : LineRecord
  /-- The observed view's copy of a record, and the cycle it was last refreshed in (Table 1-6). -/
  view : LineRecord
  viewCycle : Cycle
  divergence : Bool
  lastPublished : RampState
  deriving DecidableEq, Repr

/-- The setpoint record (Table 8-3). -/
structure SetpointRecord where
  cycle : Cycle
  ramp : RampState
  member : Bool
  permit : Bool
  lagHold : Bool
  originLatched : Bool
  setpoint : Nat
  f : Nat
  trim : Int
  ef : Int
  s : Speed
  deriving DecidableEq, Repr

/-- The section follower (Table 8-1). -/
structure Follower where
  rs : Position
  rem : Nat
  origin : Option Position
  e : Int
  ef : Int
  integral : Int
  trim : Int
  f : Nat
  setpoint : Nat
  lagHold : Bool
  overCount : Nat
  underCount : Nat
  /-- The held report: its position and DRIVE_READY. -/
  held : Option (Position × Bool)
  record : SetpointRecord
  deriving DecidableEq, Repr

/-- A response as it is buffered (Table 9-1). -/
structure Response where
  kindEcho : Byte
  result : Result
  body : List Byte
  deriving DecidableEq, Repr

/-- A request in processing: its kind, what its owner has answered (absent for RESTART, whose response is lost, R89), and the
instant processing began (R153). -/
structure Processing where
  kind : Byte
  answer : Option (Result × List Byte)
  since : Nat
  deriving DecidableEq, Repr

/-- The response buffer (Table 9-1): the request in processing is present exactly while it is PENDING. -/
inductive Buffer where
  | empty
  | ready (response : Response)
  | pending (processing : Processing)
  deriving DecidableEq, Repr

/-- The transaction in progress (Table 9-1): the envelope fixed at the fall of CS_N, whether a request was in processing at that
instant, so that the bytes shifted in will be discarded (R154), and what SCK has shifted since (R150). -/
structure Transaction where
  envelope : List Byte
  discarded : Bool
  /-- The bits of SDI sampled so far, one at each rising edge of SCK, the first first. The bytes shifted in are read from them. -/
  shiftedIn : List Bool
  /-- The falling edges of SCK so far: the number of the bit that SDO carries. -/
  shiftedOut : Nat
  deriving DecidableEq, Repr

/-- The local port (Table 9-1). -/
structure LocalPort where
  buffer : Buffer
  transaction : Option Transaction
  /-- CS_N has been low since before the last reset completed: the transaction is lost, and SDO shifts out zeros (R149). -/
  lost : Bool
  /-- The report-miss count (R148). -/
  missCount : Nat
  /-- The report-miss count has reached Nrep at the last publication, and LOCAL_SILENT is still to be raised (R148). -/
  silentDue : Bool
  deriving DecidableEq, Repr

/-- A notice record (Table 10-1). -/
structure Notice where
  kind : NoticeKind
  cycle : Cycle
  station : Nat
  detail : Byte
  value : BitVec 16
  deriving DecidableEq, Repr

/-- The notice unit (R160). The attention mask is the accepted record's (R166). -/
structure NoticeUnit where
  queue : List Notice
  lost : Bool
  /-- Pin ATTN_N, asserted (driven low). -/
  attention : Bool
  deriving DecidableEq, Repr

/-- The record the configuration store has accepted, and its digest (R170, R171). -/
structure Accepted where
  record : ConfigRecord
  digest : BitVec 16
  deriving DecidableEq, Repr

/-- The configuration store (R167, R168). -/
structure ConfigStore where
  number : Station
  accepted : Option Accepted
  deriving DecidableEq, Repr

/-- The whole station: the twelve blocks of Table 0-1, whether it is held in reset, and the commands that wait. -/
structure State where
  /-- The station is held in reset: a reset has begun and has not completed (R88). -/
  inReset : Bool
  bus : BusPort
  slots : SlotTimer
  assembled : Option Assembled
  life : LifeCycle
  roster : Roster
  agreement : Agreement
  claims : ClaimUnit
  reference : ReferenceUnit
  follower : Follower
  port : LocalPort
  notices : NoticeUnit
  store : ConfigStore
  /-- The commands that wait, first in, first out. -/
  pending : List Instr
  deriving DecidableEq, Repr

/-! ## Reset (R88, 0.5.9) -/

/-- R121. -/
def BusPort.reset : BusPort :=
  { transmit := .idle, bde := false, btxIdle := true, receipt := none, collisions := 0 }

/-- R130. -/
def SlotTimer.reset : SlotTimer :=
  { timing := none, cycle := 0, now := 0, atBoundary := false }

/-- R87, with the restart cause of this reset. -/
def LifeCycle.reset (cause : RestartCause) : LifeCycle :=
  { state := .unconfigured, restartCause := cause, isolation := none, listenTimer := none, quiet := 0, exclusion := 0,
    joiningSince := none, admitting := none, joinHeard := false, memberHeard := false, ownSeen := false, firstSet := none,
    islandReported := 0, mismatchReported := 0, leavingFrames := 0 }

/-- R70. -/
def RosterEntry.reset : RosterEntry :=
  { state := .absent, missed := 0, lastHeard := 0, digestHeard := 0, restartCause := none, joiningSince := none,
    admissionDue := none, leaveDue := none, joiningClaims := none, cycleMismatch := false }

/-- R70. -/
def Roster.reset : Roster :=
  { entries := Vector.replicate 16 RosterEntry.reset, heard := 0 }

/-- R23. -/
def Agreement.reset : Agreement :=
  { own := none, others := [], serial := 0 }

/-- R49, R54, R56, R57, R61, R67. -/
def ClaimUnit.reset : ClaimUnit :=
  { stop := none, inputs := Vector.replicate 4 { level := none, edgeFlag := false }, manualHold := false,
    announced := false, announcedEffective := none, currentHold := false, view := Vector.replicate 16 none,
    runPermit := false }

/-- R2. -/
def LineRecord.reset : LineRecord :=
  { ramp := .stopped, s := 0, t := 0, p := 0, epoch := 0, stoppedSince := 0 }

/-- R1, R2. -/
def ReferenceUnit.reset : ReferenceUnit :=
  { record := LineRecord.reset, view := LineRecord.reset, viewCycle := 0, divergence := false, lastPublished := .stopped }

/-- R146: the values of a follower that is idle, with the cycle count of the last publication. -/
def SetpointRecord.idle (cycle : Cycle) : SetpointRecord :=
  { cycle := cycle, ramp := .stopped, member := false, permit := false, lagHold := false, originLatched := false,
    setpoint := 0, f := 0, trim := 0, ef := 0, s := 0 }

/-- R135, R144: every item of Table 8-1 at its reset value, with the cycle count that the setpoint record keeps. -/
def Follower.idle (cycle : Cycle) : Follower :=
  { rs := 0, rem := 0, origin := none, e := 0, ef := 0, integral := 0, trim := 0, f := 0, setpoint := 0, lagHold := false,
    overCount := 0, underCount := 0, held := none, record := SetpointRecord.idle cycle }

/-- R149. -/
def LocalPort.reset : LocalPort :=
  { buffer := .empty, transaction := none, lost := false, missCount := 0, silentDue := false }

/-- R160: until the reset completes the queue holds nothing and ATTN_N is deasserted. -/
def NoticeUnit.reset : NoticeUnit :=
  { queue := [], lost := false, attention := false }

/-- R168. The station number is read only at completion; until then the model holds station 1 (DESIGN CHOICE, log entry 2). -/
def ConfigStore.reset : ConfigStore :=
  { number := 0, accepted := none }

/-- The station right after power-on (R88): every block at its reset values, UNCONFIGURED, restart cause POWER, and the reset
not yet complete, because its completion reads the straps (R167). RESET_COMPLETE completes it (log entry 1). -/
def State.reset : State :=
  { inReset := true, bus := BusPort.reset, slots := SlotTimer.reset, assembled := none, life := LifeCycle.reset .power,
    roster := Roster.reset, agreement := Agreement.reset, claims := ClaimUnit.reset, reference := ReferenceUnit.reset,
    follower := Follower.idle 0, port := LocalPort.reset, notices := NoticeUnit.reset, store := ConfigStore.reset,
    pending := [] }

/-! ## The two ways a step could stop -/

/-- The reasons a step can stop with a fault. There are none: the manual names no event at which the ALV-416 stops, and every
command has an effect or none in every state. The type is closed and empty, so no step of the model faults (safe). -/
inductive Fault where
  deriving DecidableEq, Repr

/-- The reasons a command can be refused. -/
inductive Refusal where
  /-- Raised by `exec` alone, for a command that has no meaning in the model yet; the mnemonic is the opcode table's. It is
  safe: nothing is claimed of such a command. No arm of `exec` raises it. -/
  | notModelled (mnemonic : String)
  deriving DecidableEq, Repr

end Sys2Proof.Machine
end

