-- ==== Sys2Proof/Machine/Codes.lean ====
section
/-! DEFINITION. The code tables of Chapter 12: each name's numeric code, and the name a received code stands for. -/

namespace Sys2Proof.Machine
open Sys2Proof

/-! ## Tables 12-10 to 12-13: from names to codes -/

/-- Table 12-10. -/
def StationState.code : StationState → Byte
  | .unconfigured => 0 | .idle => 1 | .listening => 2 | .joining => 3 | .member => 4 | .leaving => 5 | .isolated => 6

/-- Table 12-10, for the three states a frame carries. -/
def SenderState.code : SenderState → Byte
  | .joining => 3 | .member => 4 | .leaving => 5

/-- Table 12-10. -/
def RampState.code : RampState → Byte
  | .stopped => 0 | .ramping => 1 | .steady => 2 | .held => 3 | .stopping => 4

/-- Table 12-10. -/
def EntryState.code : EntryState → Byte
  | .absent => 0 | .candidate => 1 | .member => 2 | .mismatch => 3 | .foreign => 4

/-- The codes under Table 12-10. -/
def RestartCause.code : RestartCause → Byte
  | .power => 1 | .pin => 2 | .request => 3

/-- Table 12-8, offset 2. -/
def IsolationCause.code : IsolationCause → Byte
  | .collisions => 1 | .duplicate => 2

/-- Table 12-11. -/
def StopCause.code : StopCause → Byte
  | .stopInput n => BitVec.ofNat 8 (n.val + 1)
  | .localRequest => 5 | .localSilent => 6 | .driveFault => 7 | .memberLost => 8 | .divergence => 9 | .missedChange => 10
  | .foreignIsland => 11

/-- Table 12-2. -/
def OfferKind.code : OfferKind → Byte
  | .start => 1 | .rampTo => 2

/-- Table 12-12, verdicts. -/
def Reason.code : Reason → Byte
  | .conflict => 1 | .notStopped => 2 | .notRunning => 3 | .lineStopping => 4 | .stopClaimed => 5 | .outOfRange => 6
  | .membership => 7

/-- Table 12-12, verdicts. -/
def Verdict.code : Verdict → Byte
  | .ack => 0
  | .refuse why => why.code

/-- Table 12-12, decision outcomes. -/
def WithdrawReason.code : WithdrawReason → Byte
  | .refused => 0x81 | .expired => 0x82 | .originWithdrew => 0x83 | .originLeaving => 0x84

/-- Table 12-12, decision outcomes. -/
def DecisionOutcome.code : DecisionOutcome → Byte
  | .commit => 0x80
  | .withdraw why => why.code

/-- Table 12-12, offer outcomes. -/
def OfferOutcome.code : OfferOutcome → Byte
  | .dropped => 1 | .refused => 2 | .expired => 3 | .originWithdrew => 4 | .originLeaving => 5 | .applied => 6
  | .superseded => 7 | .discarded => 8

/-- Table 12-12, entry phases. -/
def OwnPhase.code : OwnPhase → Byte
  | .queued => 1
  | .offered _ => 2
  | .committed _ _ _ => 3
  | .withdrawn _ _ _ => 4

/-- Table 12-5. -/
def Result.code : Result → Byte
  | .ok => 0 | .wrongState => 1 | .busy => 2 | .badFormat => 3 | .unknownRequest => 4 | .outOfRange => 5 | .conflict => 6
  | .notStopped => 7 | .notRunning => 8 | .lineStopping => 9 | .stopClaimed => 10 | .stillActive => 11 | .tooLate => 12
  | .empty => 13 | .badConfig => 14

/-- Table 12-13, the detail of MEMBER_REMOVED. -/
def RemovalReason.code : RemovalReason → Byte
  | .missed => 1 | .left => 2 | .restarted => 3

/-- Table 12-13. -/
def NoticeKind.code : NoticeKind → Byte
  | .stopClaim => 1 | .causeAlso => 2 | .busFault => 3 | .excluded => 4 | .foreignIsland => 5 | .duplicateStation => 6
  | .rampState => 7 | .offerResult => 8 | .changeApplied => 9 | .memberAdded => 10 | .memberRemoved => 11
  | .cycleMismatch => 12 | .stationState => 13 | .candidateHeard => 14 | .configMismatch => 15 | .peerRestarted => 16
  | .restarted => 17

/-- The class of a notice kind (Table 10-2). -/
def NoticeKind.noticeClass : NoticeKind → NoticeClass
  | .stopClaim | .causeAlso | .busFault | .excluded | .foreignIsland | .duplicateStation => .alarm
  | .rampState | .offerResult | .changeApplied | .memberAdded | .memberRemoved | .cycleMismatch | .stationState => .line
  | .candidateHeard | .configMismatch | .peerRestarted | .restarted => .info

/-- The rank of a class: ALARM above LINE above INFO (10.3). -/
def NoticeClass.rank : NoticeClass → Nat
  | .alarm => 2 | .line => 1 | .info => 0

/-- A field that may be absent is written as 0 (R173). -/
def codeOr0 {α : Type} (code : α → Byte) : Option α → Byte
  | none => 0
  | some a => code a

/-! ## From received codes to names: `none` where the code is outside its table -/

/-- Table 12-10. -/
def SenderState.ofCode (b : Byte) : Option SenderState :=
  if b = 3 then some .joining else if b = 4 then some .member else if b = 5 then some .leaving else none

/-- Table 12-10. -/
def RampState.ofCode (b : Byte) : Option RampState :=
  if b = 0 then some .stopped else if b = 1 then some .ramping else if b = 2 then some .steady
  else if b = 3 then some .held else if b = 4 then some .stopping else none

/-- The codes under Table 12-10; 0 is none. -/
def RestartCause.ofCode (b : Byte) : Option (Option RestartCause) :=
  if b = 0 then some none else if b = 1 then some (some .power) else if b = 2 then some (some .pin)
  else if b = 3 then some (some .request) else none

/-- Table 12-11; 0 is none. -/
def StopCause.ofCode (b : Byte) : Option (Option StopCause) :=
  if b = 0 then some none
  else if b = 1 then some (some (.stopInput 0)) else if b = 2 then some (some (.stopInput 1))
  else if b = 3 then some (some (.stopInput 2)) else if b = 4 then some (some (.stopInput 3))
  else if b = 5 then some (some .localRequest) else if b = 6 then some (some .localSilent)
  else if b = 7 then some (some .driveFault) else if b = 8 then some (some .memberLost)
  else if b = 9 then some (some .divergence) else if b = 10 then some (some .missedChange)
  else if b = 11 then some (some .foreignIsland) else none

/-- Table 12-1, offset 21: 0 clear, 1 set. -/
def holdOfCode (b : Byte) : Option Bool :=
  if b = 0 then some false else if b = 1 then some true else none

/-- Table 12-2. -/
def OfferKind.ofCode (b : Byte) : Option OfferKind :=
  if b = 1 then some .start else if b = 2 then some .rampTo else none

/-- Table 12-12, verdicts. -/
def Verdict.ofCode (b : Byte) : Option Verdict :=
  if b = 0 then some .ack else if b = 1 then some (.refuse .conflict) else if b = 2 then some (.refuse .notStopped)
  else if b = 3 then some (.refuse .notRunning) else if b = 4 then some (.refuse .lineStopping)
  else if b = 5 then some (.refuse .stopClaimed) else if b = 6 then some (.refuse .outOfRange)
  else if b = 7 then some (.refuse .membership) else none

/-- Table 12-12, decision outcomes. -/
def DecisionOutcome.ofCode (b : Byte) : Option DecisionOutcome :=
  if b = 0x80 then some .commit else if b = 0x81 then some (.withdraw .refused)
  else if b = 0x82 then some (.withdraw .expired) else if b = 0x83 then some (.withdraw .originWithdrew)
  else if b = 0x84 then some (.withdraw .originLeaving) else none

/-! ## Requests, stations, modes -/

/-- The body length of each request kind (Table 12-4); `none` where the kind byte names no request. -/
def requestBody (kind : Byte) : Option Nat :=
  if kind = 0x01 then some 39
  else if kind = 0x10 ∨ kind = 0x11 then some 2
  else if kind = 0x30 then some 5
  else if kind = 0x41 ∨ kind = 0x42 then some 1
  else if kind ∈ ([0x00, 0x02, 0x03, 0x12, 0x20, 0x21, 0x22, 0x23, 0x31, 0x40, 0x43, 0x44, 0x7F] : List Byte) then some 0
  else none

/-- A station number 1..16 as it is carried. -/
def stationOfNumber (b : Byte) : Option Station :=
  if h : 1 ≤ b.toNat ∧ b.toNat ≤ 16 then some ⟨b.toNat - 1, by omega⟩ else none

/-- The station number 1..16 of a station (0.5.1). -/
def stationNumber (k : Station) : Nat := k.val + 1

/-- The station number as a byte. -/
def numberByte (k : Station) : Byte := BitVec.ofNat 8 (stationNumber k)

/-- The modes of the stop inputs (12.4). -/
def InputMode.ofCode (b : Byte) : Option InputMode :=
  if b = 0 then some .off else if b = 1 then some .levelLow else if b = 2 then some .levelHigh
  else if b = 3 then some .edgeFall else if b = 4 then some .edgeRise else none

/-! ## Result codes of the offer checks (R26) -/

/-- "Returned as the result code of the same name" (R26). MEMBERSHIP is a voter's reason only; no request meets it. -/
def Reason.result : Reason → Result
  | .conflict => .conflict
  | .notStopped => .notStopped
  | .notRunning => .notRunning
  | .lineStopping => .lineStopping
  | .stopClaimed => .stopClaimed
  | .outOfRange => .outOfRange
  | .membership => .wrongState

end Sys2Proof.Machine
end

