-- ==== Sys2Proof/Machine/Ops.lean ====
section
/-! DEFINITION. The shared readings of the state: sets of stations, cycle arithmetic, the accepted configuration, the own
roster entry and the member set. -/

namespace Sys2Proof.Machine
open Sys2Proof

/-! ## Sets of stations (0.5.1) -/

/-- Every station, in ascending order of number. -/
def allStations : List Station := List.finRange 16

/-- Is the station in the set? Bit k−1 stands for station k. -/
def contains (set : StationSet) (k : Station) : Bool := set.getLsbD k.val

/-- The set of one station. -/
def singleton (k : Station) : StationSet := (1 : StationSet) <<< k.val

/-- A set with one more station. -/
def setInsert (set : StationSet) (k : Station) : StationSet := set ||| singleton k

/-- A set without a station. -/
def setRemove (set : StationSet) (k : Station) : StationSet := set &&& ~~~ singleton k

/-- The stations that a test accepts. -/
def setOf (p : Station → Bool) : StationSet := (allStations.filter p).foldl setInsert 0

/-- How many stations a set holds. -/
def setSize (set : StationSet) : Nat := allStations.countP (contains set)

/-- Does the first set lie within the second? -/
def subset (a b : StationSet) : Bool := a &&& b == a

/-! ## Cycle arithmetic (0.5.2) -/

/-- A cycle E is *ahead* of the count c when (E − c) mod 65536 is 1 or 2, and *due* otherwise (R61). -/
def ahead (e c : Cycle) : Bool := e - c == 1 || e - c == 2

/-- The cycle in which a change first announced in cycle c takes effect: the lead of two cycles (0.5.3). -/
def lead (c : Cycle) : Cycle := c + 2

/-! ## The accepted configuration (R170) -/

/-- The record that stands while none is accepted. Nothing reads it: a station acts on configured values only after
acceptance. -/
def blankRecord : ConfigRecord :=
  { rateCode := 0, slotLength := 0, smax := 0, rampStep := 0, stopStep := 0, missedLimit := 0, offerDeadline := 0, draw := 0,
    kp := 0, ki := 0, imax := 0, trimMax := 0, kf := 0, lagLimit := 0, lagRelease := 0, lagCount := 0, ssMax := 0,
    reportTimeout := 0, sti0 := 0, sti1 := 0, sti2 := 0, sti3 := 0, attentionMask := 0 }

/-- The accepted record. -/
def State.cfg (s : State) : ConfigRecord :=
  match s.store.accepted with
  | none => blankRecord
  | some a => a.record

/-- The own config digest (R171). -/
def State.digest (s : State) : BitVec 16 :=
  match s.store.accepted with
  | none => 0
  | some a => a.digest

/-- The missed limit M (index 6); 0 before configuration (R86). -/
def State.missedLimit (s : State) : Nat := s.cfg.missedLimit.toNat

/-- The offer deadline Toffer as a number of cycles (index 7). -/
def State.offerDeadline (s : State) : Cycle := s.cfg.offerDeadline.setWidth 16

/-- The slot length in microseconds (index 2). -/
def State.slotLength (s : State) : Nat := s.cfg.slotLength.toNat

/-- The mode of a stop input: OFF until a record is accepted (R56). -/
def State.inputMode (s : State) (n : Fin 4) : InputMode :=
  let byte := match n with
    | 0 => s.cfg.sti0
    | 1 => s.cfg.sti1
    | 2 => s.cfg.sti2
    | 3 => s.cfg.sti3
  (InputMode.ofCode byte).getD .off

/-- The attention mask: all three classes until a record is accepted (R160), then the record's (R166). -/
def State.attentionMask (s : State) : Byte :=
  match s.store.accepted with
  | none => 7
  | some a => a.record.attentionMask

/-! ## The station and its roster -/

/-- The own station (R167). -/
def State.own (s : State) : Station := s.store.number

/-- The station states in which a station transmits (Table 5-1). -/
def StationState.transmits : StationState → Bool
  | .joining | .member | .leaving => true
  | .unconfigured | .idle | .listening | .isolated => false

/-- What the own entry shows: it follows the station state alone (R70; log entry 21). -/
def ownEntryState : StationState → EntryState
  | .member | .leaving => .member
  | .joining => .candidate
  | .unconfigured | .idle | .listening | .isolated => .absent

/-- Roster entry k: the own entry as R70 gives it, any other as the roster holds it. -/
def State.rosterEntry (s : State) (k : Station) : RosterEntry :=
  if k = s.own then { RosterEntry.reset with state := ownEntryState s.life.state } else s.roster.entries[k]

/-- Is station k in the own member set (R69)? -/
def State.isMember (s : State) (k : Station) : Bool := (s.rosterEntry k).state == .member

/-- The member set: the stations whose entries are MEMBER (R69). -/
def State.memberSet (s : State) : StationSet := setOf s.isMember

/-- The roster with another station's entry replaced. -/
def State.setEntry (s : State) (k : Station) (entry : RosterEntry) : State :=
  { s with roster := { s.roster with entries := s.roster.entries.set k entry } }

/-- The combined own hold (Table 3-4). -/
def State.combinedHold (s : State) : Bool := s.claims.manualHold || s.follower.lagHold

/-- The reference fields that the outside sees (R15): the observed view while JOINING, else the record. -/
def State.shownRecord (s : State) : LineRecord :=
  if s.life.state = .joining then s.reference.view else s.reference.record

/-- Does a ramp state count as a line that runs freely: RAMPING, STEADY or HELD? -/
def RampState.free : RampState → Bool
  | .ramping | .steady | .held => true
  | .stopped | .stopping => false

/-- Is a ramp state other than STOPPED? -/
def RampState.running : RampState → Bool
  | .stopped => false
  | .ramping | .steady | .held | .stopping => true

/-- A whole number clamped to a range (0.5.5). -/
def clamp (low high x : Int) : Int := max low (min high x)

end Sys2Proof.Machine
end

