-- ==== Sys2Proof/Machine/Flags.lean ====
section
/-! DEFINITION. Flags and flag bytes: the classes an attention mask enables and the ATTN_N line (R166), and every flags byte of
Chapter 12. -/

namespace Sys2Proof.Machine
open Sys2Proof

/-- The mask bit of a class: bit 0 ALARM, bit 1 LINE, bit 2 INFO (12.4). -/
def NoticeClass.maskBit : NoticeClass → Nat
  | .alarm => 0 | .line => 1 | .info => 2

/-- Does the mask enable the class (R166)? -/
def maskEnables (mask : Byte) (c : NoticeClass) : Bool := mask.getLsbD c.maskBit

/-- ATTN_N is asserted while the queue holds a notice of a class that the mask enables (R166). -/
def attentionOf (mask : Byte) (queue : List Notice) : Bool :=
  queue.any fun n => maskEnables mask n.kind.noticeClass

/-- The notice unit re-examines ATTN_N (R166). -/
def State.examineAttention (s : State) : State :=
  { s with notices := { s.notices with attention := attentionOf s.attentionMask s.notices.queue } }

/-- The flags byte of the setpoint record (Table 12-7, offset 3). -/
def setpointFlags (r : SetpointRecord) : Byte :=
  flagBit 0 r.member ||| flagBit 1 r.permit ||| flagBit 2 r.lagHold ||| flagBit 3 r.originLatched

/-- The flags byte of a READ_ROSTER body (Table 12-9, offset 2). -/
def rosterFlags (inSet : Bool) (e : RosterEntry) : Byte :=
  flagBit 0 inSet ||| flagBit 1 e.restartCause.isSome ||| flagBit 2 e.joiningSince.isSome |||
    flagBit 3 e.admissionDue.isSome ||| flagBit 4 e.leaveDue.isSome ||| flagBit 5 e.cycleMismatch

/-- The presence byte of a READ_PROPOSAL body (Table 12-9, offset 6). -/
def presenceFlags (offered acks refusal verdict effective withdrawn announced : Bool) : Byte :=
  flagBit 0 offered ||| flagBit 1 acks ||| flagBit 2 refusal ||| flagBit 3 verdict ||| flagBit 4 effective |||
    flagBit 5 withdrawn ||| flagBit 6 announced

/-- The counts byte of a status frame (Table 12-1, offset 27). -/
def countsByte (offer decision : Bool) (responses : Nat) : Byte :=
  flagBit 7 offer ||| flagBit 6 decision ||| BitVec.ofNat 8 (responses % 16)

/-- A flag written as a whole byte: 0 clear, 1 set (Tables 12-1 and 12-8). -/
def flagByte (flag : Bool) : Byte := flagBit 0 flag

end Sys2Proof.Machine
end

