-- ==== Sys2Proof/Machine/Operands.lean ====
section
/-! DEFINITION. Operand forms: the layouts that come to the part and leave it as bytes (Chapter 12): the configuration record, and the
status frame with its content checks (R115). -/

namespace Sys2Proof.Machine
open Sys2Proof

/-! ## The configuration record (Table 12-6) -/

/-- The length of the record, in bytes (R168). -/
def recordLength : Nat := 39

/-- The record that 39 bytes carry (Table 12-6). -/
def recordOfBytes (b : List Byte) : ConfigRecord :=
  { rateCode := byteAt b 0, slotLength := halfAt b 1, smax := halfAt b 3, rampStep := halfAt b 5, stopStep := halfAt b 7,
    missedLimit := byteAt b 9, offerDeadline := byteAt b 10, draw := halfAt b 11, kp := halfAt b 13, ki := byteAt b 15,
    imax := halfAt b 16, trimMax := halfAt b 18, kf := halfAt b 20, lagLimit := wordAt b 22, lagRelease := wordAt b 26,
    lagCount := byteAt b 30, ssMax := halfAt b 31, reportTimeout := byteAt b 33, sti0 := byteAt b 34, sti1 := byteAt b 35,
    sti2 := byteAt b 36, sti3 := byteAt b 37, attentionMask := byteAt b 38 }

/-- The line part's 11 bytes (R171). -/
def linePartBytes (r : ConfigRecord) : List Byte :=
  [r.rateCode] ++ halfBytes r.slotLength ++ halfBytes r.smax ++ halfBytes r.rampStep ++ halfBytes r.stopStep ++
    [r.missedLimit, r.offerDeadline]

/-- The local part's 28 bytes (Table 12-6). -/
def localPartBytes (r : ConfigRecord) : List Byte :=
  halfBytes r.draw ++ halfBytes r.kp ++ [r.ki] ++ halfBytes r.imax ++ halfBytes r.trimMax ++ halfBytes r.kf ++
    wordBytes r.lagLimit ++ wordBytes r.lagRelease ++ [r.lagCount] ++ halfBytes r.ssMax ++
    [r.reportTimeout, r.sti0, r.sti1, r.sti2, r.sti3, r.attentionMask]

/-- The record's 39 bytes (Table 12-6). -/
def recordBytes (r : ConfigRecord) : List Byte := linePartBytes r ++ localPartBytes r

/-! ## The status frame as bytes (12.2) -/

/-- The offer part (Table 12-2). -/
def offerBytes (o : OfferPart) : List Byte :=
  [o.serial, o.kind.code] ++ halfBytes o.target ++ halfBytes o.firstOffered ++ halfBytes o.voters

/-- The decision part (Table 12-2). -/
def decisionBytes (d : DecisionPart) : List Byte := [d.serial, d.outcome.code] ++ halfBytes d.effective

/-- One response (Table 12-2). -/
def responseBytes (r : ResponsePart) : List Byte := [numberByte r.origin, r.serial, r.verdict.code]

/-- The reference fields (Table 12-1, offsets 6 to 15). -/
def referenceBytes (r : ReferencePart) : List Byte :=
  [r.ramp.code] ++ halfBytes r.t ++ halfBytes r.s ++ halfBytes r.pLow ++ [r.epoch] ++ halfBytes r.stoppedSince

/-- The fixed part (Table 12-1). -/
def fixedBytes (f : Frame) : List Byte :=
  [numberByte f.station] ++ halfBytes f.cycle ++ [f.state.code] ++ halfBytes f.digest ++ referenceBytes f.reference ++
    halfBytes f.members ++ [codeOr0 StopCause.code f.stopCause] ++ halfBytes f.stopEffective ++ [flagByte f.hold] ++
    halfBytes f.holdEffective ++ [codeOr0 RestartCause.code f.restartCause] ++ halfBytes f.joiningSince ++
    [countsByte f.offer.isSome f.decision.isSome f.responses.length]

/-- The optional parts in their order (R111). -/
def optionalBytes (f : Frame) : List Byte :=
  (f.offer.map offerBytes).getD [] ++ (f.decision.map decisionBytes).getD [] ++ f.responses.flatMap responseBytes

/-- The frame before its CRC. -/
def contentBytes (f : Frame) : List Byte := fixedBytes f ++ optionalBytes f

/-- The whole frame, the CRC's high byte before its low byte (R123, R127). -/
def frameBytes (f : Frame) : List Byte := contentBytes f ++ halfBytes (crc (contentBytes f))

/-- The characters of a frame: the header character alone carries mark 1 (R122). -/
def frameCharacters (f : Frame) : List BusCharacter :=
  match frameBytes f with
  | [] => []
  | header :: rest => { data := header, mark := true } :: rest.map fun b => { data := b, mark := false }

/-- The eleven bits of a character in the order they are sent: start, data least significant bit first, mark, stop (Table 7-2). -/
def characterBits (c : BusCharacter) : List Bool :=
  [false] ++ (List.range 8).map (fun i => c.data.getLsbD i) ++ [c.mark, true]

/-- The length in bytes that a counts byte gives (R112, R128). -/
def lengthOfCounts (counts : Byte) : Nat :=
  Config.fixedPart + (if counts.getLsbD 7 then 8 else 0) + (if counts.getLsbD 6 then 4 else 0) + 3 * (counts.toNat % 16) + 2

/-- The expected length of a frame in receipt, known once the counts byte has come (R128). -/
def expectedLength (bytes : List Byte) : Option Nat :=
  if bytes.length < Config.fixedPart then none else some (lengthOfCounts (byteAt bytes 27))

/-- Does the CRC received agree with the CRC computed over the bytes before it (R127)? -/
def crcAgrees (bytes : List Byte) : Bool :=
  crc (bytes.take (bytes.length - 2)) == halfAt bytes (bytes.length - 2)

/-! ## The content checks (R115) -/

/-- The offer that starts at an offset; `none` where its kind is outside its table. -/
def offerAt (b : List Byte) (i : Nat) : Option OfferPart := do
  let kind ← OfferKind.ofCode (byteAt b (i + 1))
  return { serial := byteAt b i, kind := kind, target := halfAt b (i + 2), firstOffered := halfAt b (i + 4),
           voters := halfAt b (i + 6) }

/-- The decision that starts at an offset; `none` where its outcome is outside its table. -/
def decisionAt (b : List Byte) (i : Nat) : Option DecisionPart := do
  let outcome ← DecisionOutcome.ofCode (byteAt b (i + 1))
  return { serial := byteAt b i, outcome := outcome, effective := halfAt b (i + 2) }

/-- The responses that start at an offset; `none` where an origin or a verdict is outside its table. -/
def responsesAt (b : List Byte) (i : Nat) : Nat → Option (List ResponsePart)
  | 0 => some []
  | n + 1 => do
    let origin ← stationOfNumber (byteAt b i)
    let verdict ← Verdict.ofCode (byteAt b (i + 2))
    let rest ← responsesAt b (i + 3) n
    return { origin := origin, serial := byteAt b (i + 1), verdict := verdict } :: rest

/-- The frame that the bytes spell, where every code lies in its table and the counts byte's unused positions are 0. -/
def readFrame (b : List Byte) : Option Frame := do
  let counts := byteAt b 27
  let hasOffer := counts.getLsbD 7
  let hasDecision := counts.getLsbD 6
  let afterOffer := Config.fixedPart + (if hasOffer then 8 else 0)
  let afterDecision := afterOffer + (if hasDecision then 4 else 0)
  let station ← stationOfNumber (byteAt b 0)
  let state ← SenderState.ofCode (byteAt b 3)
  let ramp ← RampState.ofCode (byteAt b 6)
  let stopCause ← StopCause.ofCode (byteAt b 18)
  let hold ← holdOfCode (byteAt b 21)
  let restartCause ← RestartCause.ofCode (byteAt b 24)
  guard (counts.getLsbD 5 = false ∧ counts.getLsbD 4 = false)
  let offer ← if hasOffer then (offerAt b Config.fixedPart).map some else some none
  let decision ← if hasDecision then (decisionAt b afterOffer).map some else some none
  let responses ← responsesAt b afterDecision (counts.toNat % 16)
  return {
    station := station, cycle := halfAt b 1, state := state, digest := halfAt b 4,
    reference := { ramp := ramp, t := halfAt b 7, s := halfAt b 9, pLow := halfAt b 11, epoch := byteAt b 13,
                   stoppedSince := halfAt b 14 },
    members := halfAt b 16, stopCause := stopCause, stopEffective := halfAt b 19, hold := hold, holdEffective := halfAt b 22,
    restartCause := restartCause, joiningSince := halfAt b 25, offer := offer, decision := decision, responses := responses }

/-- Are the origins in strictly ascending order? -/
def ascendingOrigins : List ResponsePart → Bool
  | [] => true
  | [_] => true
  | a :: b :: rest => a.origin.val < b.origin.val && ascendingOrigins (b :: rest)

/-- The checks of Table 6-5 that concern how the fields of a frame stand together. -/
def contentValid (f : Frame) : Bool :=
  (f.stopCause.isSome || f.stopEffective == 0) &&
  (f.holdEffective - f.cycle == 0 || f.holdEffective - f.cycle == 1 || f.holdEffective - f.cycle == 2) &&
  (match f.state with
    | .joining => f.restartCause.isSome && f.members == 0 && f.offer.isNone && f.decision.isNone && f.responses.isEmpty
    | .member => f.restartCause.isNone && f.joiningSince == 0 && contains f.members f.station
    | .leaving => f.restartCause.isNone && f.joiningSince == 0 && contains f.members f.station && f.offer.isNone &&
        f.responses.isEmpty) &&
  !(f.offer.isSome && f.decision.isSome) &&
  f.offer.all (fun o => contains o.voters f.station) &&
  f.decision.all (fun d => d.outcome == .commit || d.effective == 0) &&
  f.responses.all (fun r => r.origin != f.station) && ascendingOrigins f.responses

/-- The valid frame that the bytes spell (R115), or `none` for an invalid one. -/
def validFrame (b : List Byte) : Option Frame := (readFrame b).filter contentValid

end Sys2Proof.Machine
end

