-- ==== Sys2Proof/WellFormed.lean ====
section
/-! DEFINITION. Well-formed commands: what the operands of a command must be for it to be the event that its row names. Every command
has a meaning on every operand; an ill-formed one names an event that the manual gives another row. -/

namespace Sys2Proof
open Sys2Proof.Machine

/-- SHORT_TRANSACTION has fewer than 3 whole bytes (R152 step 1). -/
def shortEnough (wholeBytes : Nat) : Bool := decide (wholeBytes < 3)

/-- UNKNOWN_REQUEST carries a kind byte that names no request (R152 step 3). -/
def kindUnknown (kind : Byte) : Bool := (requestBody kind).isNone

/-- The well-formed commands. -/
def Instr.wellFormed : Instr → Bool
  | .shortTransaction wholeBytes => shortEnough wholeBytes
  | .unknownRequest kind => kindUnknown kind
  | .powerOn | .resetN | .resetComplete _ | .stopInputRecognised _ _ | .transactionStart | .badFormat _ | .transactionDiscarded
  | .nop | .configure _ | .join | .leave | .offerStart _ | .offerRamp _ | .withdrawOffer | .raiseStop | .clearStop | .setHold
  | .releaseHold | .report _ _ | .readSetpoint | .readStatus | .readRoster _ | .readProposal _ | .readNotice | .readConfig
  | .restart | .transmitOffset | .collision | .busFault | .transmitEnd | .receivedWhole _ | .gap | .frameAbandoned _ | .slotClose _
  | .missedLimit _ | .leavingComplete | .withdrawnEntryRemoved | .cycleBoundary _ | .lagHold | .localSilent | .expired
  | .gracePeriod | .excluded | .quietCountExpiry | .ownSlotStart | .listenWindowExpiry | .responseReady
  | .characterReceived _ _ => true

end Sys2Proof
end

