-- ==== Sys2Proof/Decode.lean ====
section
/-! DEFINITION. Decoding: the table's words, of which there are none, and the section controller's transactions, whose bytes say which
command the rise of CS_N is (R152). An encoder of requests stands beside it. -/

namespace Sys2Proof
open Sys2Proof.Machine

/-- The command that a word spells by the table's bits. No row of spec/opcode_table.json gives bits: its fields are all empty. -/
def decodeTableWord (_nbits _w : Nat) : Option Instr := none

/-! ## Transactions (R152, Tables 12-3 and 12-4) -/

/-- The request of a kind with a body of the kind's length; a kind of no request is UNKNOWN_REQUEST. -/
def requestOf (kind : Byte) (body : List Byte) : Instr :=
  if kind = 0x00 then .nop
  else if kind = 0x01 then .configure (recordOfBytes body)
  else if kind = 0x02 then .join
  else if kind = 0x03 then .leave
  else if kind = 0x10 then .offerStart (halfAt body 0)
  else if kind = 0x11 then .offerRamp (halfAt body 0)
  else if kind = 0x12 then .withdrawOffer
  else if kind = 0x20 then .raiseStop
  else if kind = 0x21 then .clearStop
  else if kind = 0x22 then .setHold
  else if kind = 0x23 then .releaseHold
  else if kind = 0x30 then .report (wordAt body 0) (byteAt body 4)
  else if kind = 0x31 then .readSetpoint
  else if kind = 0x40 then .readStatus
  else if kind = 0x41 then .readRoster (byteAt body 0)
  else if kind = 0x42 then .readProposal (byteAt body 0)
  else if kind = 0x43 then .readNotice
  else if kind = 0x44 then .readConfig
  else if kind = 0x7F then .restart
  else .unknownRequest kind

/-- The command that a transaction of these whole bytes is, where it began while no request was in processing: the tests of R152 in
their order. Bytes after the envelope's end are not read (R150). -/
def transactionCommand (bytes : List Byte) : Instr :=
  match bytes with
  | kind :: length :: rest =>
    if rest = [] then .shortTransaction 2
    else if Config.maxBody < length.toNat ∨ rest.length < length.toNat + 1 ∨
        byteSum (bytes.take (length.toNat + 3)) ≠ 0 then .badFormat kind
    else match requestBody kind with
      | none => .unknownRequest kind
      | some n => if length.toNat = n then requestOf kind (rest.take n) else .badFormat kind
  | [_] => .shortTransaction 1
  | [] => .shortTransaction 0

/-! ## The encoder of requests -/

/-- The kind and body of a request; `none` for a command that is no request. -/
def requestParts : Instr → Option (Byte × List Byte)
  | .nop => some (0x00, [])
  | .configure record => some (0x01, recordBytes record)
  | .join => some (0x02, [])
  | .leave => some (0x03, [])
  | .offerStart target => some (0x10, halfBytes target)
  | .offerRamp target => some (0x11, halfBytes target)
  | .withdrawOffer => some (0x12, [])
  | .raiseStop => some (0x20, [])
  | .clearStop => some (0x21, [])
  | .setHold => some (0x22, [])
  | .releaseHold => some (0x23, [])
  | .report position flags => some (0x30, wordBytes position ++ [flags])
  | .readSetpoint => some (0x31, [])
  | .readStatus => some (0x40, [])
  | .readRoster number => some (0x41, [number])
  | .readProposal origin => some (0x42, [origin])
  | .readNotice => some (0x43, [])
  | .readConfig => some (0x44, [])
  | .restart => some (0x7F, [])
  | .powerOn | .resetN | .resetComplete _ | .stopInputRecognised _ _ | .transactionStart | .shortTransaction _ | .badFormat _
  | .unknownRequest _ | .transactionDiscarded | .transmitOffset | .collision | .busFault | .transmitEnd | .receivedWhole _ | .gap
  | .frameAbandoned _ | .slotClose _ | .missedLimit _ | .leavingComplete | .withdrawnEntryRemoved | .cycleBoundary _ | .lagHold
  | .localSilent | .expired | .gracePeriod | .excluded | .quietCountExpiry | .ownSlotStart | .listenWindowExpiry | .responseReady
  | .characterReceived _ _ => none

/-- A request envelope: kind, length, body and check (Table 12-3). -/
def requestEnvelope (kind : Byte) (body : List Byte) : List Byte :=
  let bytes := [kind, BitVec.ofNat 8 body.length] ++ body
  bytes ++ [checkByte bytes]

/-- The envelope of a request, as the section controller shifts it in. -/
def encodeRequest (i : Instr) : Option (List Byte) := (requestParts i).map fun p => requestEnvelope p.1 p.2

end Sys2Proof
end

