-- ==== Sys2Proof/Machine/Notices.lean ====
section
/-! DEFINITION. The notice unit (Chapter 10): posting, overflow, reading. -/

namespace Sys2Proof.Machine
open Sys2Proof

/-- The rank of a notice's class. -/
def Notice.rank (n : Notice) : Nat := n.kind.noticeClass.rank

/-- The lowest class rank among a run of notices. -/
def lowestRank (queue : List Notice) : Nat := queue.foldl (fun r n => min r n.rank) 2

/-- The highest class rank among a run of notices. -/
def highestRank (queue : List Notice) : Nat := queue.foldl (fun r n => max r n.rank) 0

/-- The queue after a post (R163, R164): the notice at the tail; where the queue was full, the oldest notice of the lowest class
among the queued ones and the new one is discarded. -/
def queuePost (queue : List Notice) (n : Notice) : List Notice :=
  let all := queue ++ [n]
  if queue.length < Config.noticeCapacity then all else all.eraseP fun m => m.rank == lowestRank all

/-- A notice posted to the notice unit (R163, R164). Its cycle count is the slot timer's at this moment (R161). -/
def State.post (s : State) (kind : NoticeKind) (station : Nat) (detail : Byte) (value : BitVec 16) : State :=
  let n : Notice := { kind := kind, cycle := s.slots.cycle, station := station, detail := detail, value := value }
  let lost := s.notices.lost || !(s.notices.queue.length < Config.noticeCapacity)
  State.examineAttention { s with notices := { s.notices with queue := queuePost s.notices.queue n, lost := lost } }

/-- STATION_STATE, posted at a change of station state (R90). -/
def State.postStationState (s : State) (previous : StationState) : State :=
  s.post .stationState 0 s.life.state.code (previous.code.setWidth 16)

/-- The notice that READ_NOTICE returns: the oldest of the highest class present (R165). -/
def nextNotice (queue : List Notice) : Option Notice := queue.find? fun n => n.rank == highestRank queue

/-- The queue without the notice that READ_NOTICE returns (R165). -/
def queueRead (queue : List Notice) : List Notice := queue.eraseP fun n => n.rank == highestRank queue

/-- The READ_NOTICE body (12.7). -/
def noticeBody (n : Notice) : List Byte :=
  [n.kind.code] ++ halfBytes n.cycle ++ [BitVec.ofNat 8 n.station, n.detail] ++ halfBytes n.value

end Sys2Proof.Machine
end

