-- ==== Sys2Proof/Machine/Claims.lean ====
section
/-! DEFINITION. The claim unit's own claims (3.2 to 3.4): the own stop claim, the stop inputs, the own hold, and the answers for
the new cycle (3.6). -/

namespace Sys2Proof.Machine
open Sys2Proof

/-! ## The own stop claim -/

/-- A cause is raised (R50): it sets a clear claim and posts STOP_CLAIM, or posts CAUSE_ALSO once on a set one. -/
def State.raise (s : State) (cause : StopCause) : State :=
  match s.claims.stop with
  | none =>
    let claim : OwnStop := { cause := cause, effective := none, inForce := false, reported := [] }
    State.post { s with claims := { s.claims with stop := some claim } } .stopClaim (stationNumber s.own) cause.code 0
  | some claim =>
    if cause = claim.cause ∨ cause ∈ claim.reported then s
    else
      let claim' : OwnStop := { claim with reported := claim.reported ++ [cause] }
      State.post { s with claims := { s.claims with stop := some claim' } } .causeAlso (stationNumber s.own) cause.code
        (claim.cause.code.setWidth 16)

/-- At the own-slot start a set claim without an effective cycle receives this cycle plus 2 (R51). -/
def announceStop (c : Cycle) (claim : Option OwnStop) : Option OwnStop :=
  claim.map fun k => { k with effective := some (k.effective.getD (lead c)) }

/-- At a boundary a set claim whose effective cycle is the new cycle is marked in force (R51). -/
def markStop (new : Cycle) (claim : Option OwnStop) : Option OwnStop :=
  claim.map fun k => { k with inForce := k.inForce || k.effective == some new }

/-- On a change of kind (a) or (b) a set claim loses its effective cycle and its in-force mark (R51, R107). -/
def unannounceStop (claim : Option OwnStop) : Option OwnStop :=
  claim.map fun k => { k with effective := none, inForce := false }

/-! ## The stop inputs -/

/-- Is an input in this mode active at this recognised level, by its level (Table 3-3)? -/
def levelActive (mode : InputMode) (level : Option Bool) : Bool :=
  match mode, level with
  | .levelLow, some false => true
  | .levelHigh, some true => true
  | .levelLow, _ => false
  | .levelHigh, _ => false
  | .off, _ => false
  | .edgeFall, _ => false
  | .edgeRise, _ => false

/-- Does a recognised edge from a known level to `high` match the mode (Table 3-3)? A first recognition is not an edge (R54). -/
def edgeMatches (mode : InputMode) (before : Option Bool) (high : Bool) : Bool :=
  match mode, before with
  | .edgeFall, some true => !high
  | .edgeRise, some false => high
  | .edgeFall, _ => false
  | .edgeRise, _ => false
  | .off, _ => false
  | .levelLow, _ => false
  | .levelHigh, _ => false

/-- A stop input is recognised at a level (R54, R55): in a level mode it raises its cause when it becomes active; in an edge mode
the matching edge latches a clear flag and raises its cause. A level that is already the recognised one changes nothing. -/
def State.recogniseInput (s : State) (n : Fin 4) (high : Bool) : State :=
  let before := s.claims.inputs[n].level
  if before = some high then s
  else
    let mode := s.inputMode n
    let latches := edgeMatches mode before high && !s.claims.inputs[n].edgeFlag
    let input : StopInput := { level := some high, edgeFlag := s.claims.inputs[n].edgeFlag || latches }
    let t := { s with claims := { s.claims with inputs := s.claims.inputs.set n input } }
    if levelActive mode (some high) || latches then t.raise (.stopInput n) else t

/-- The inputs in a level mode whose recognised level is the active one, in ascending order (R52, R56). -/
def State.activeInputs (s : State) : List (Fin 4) :=
  (List.finRange 4).filter fun n => levelActive (s.inputMode n) s.claims.inputs[n].level

/-- At acceptance each level input already active raises the claim, in ascending order (R56). -/
def State.raiseActiveInputs (s : State) : State :=
  s.activeInputs.foldl (fun t n => t.raise (.stopInput n)) s

/-- CLEAR_STOP where it is taken (R52): the edge flags and the claim are cleared, and the lowest-numbered active level input
raises the claim again. The flag says whether one did. -/
def State.clearStop (s : State) : State × Bool :=
  let inputs := s.claims.inputs.map fun i => { i with edgeFlag := false }
  let t := { s with claims := { s.claims with stop := none, inputs := inputs } }
  match t.activeInputs with
  | [] => (t, false)
  | n :: _ => (t.raise (.stopInput n), true)

/-! ## The own hold -/

/-- At the own-slot start a combined hold that differs from the announced value is announced, if no change is pending (R59). -/
def announceHold (combined : Bool) (c : Cycle) (u : ClaimUnit) : ClaimUnit :=
  if combined != u.announced && u.announcedEffective.isNone then
    { u with announced := combined, announcedEffective := some (lead c) }
  else u

/-- At a boundary an announced change whose effective cycle is the new cycle becomes the current own hold (R60). -/
def settleHold (new : Cycle) (u : ClaimUnit) : ClaimUnit :=
  if u.announcedEffective = some new then { u with currentHold := u.announced, announcedEffective := none } else u

/-- The own claims at a boundary of a transmitting station (R51, R60). -/
def ownClaimsBoundary (new : Cycle) (u : ClaimUnit) : ClaimUnit :=
  settleHold new { u with stop := markStop new u.stop }

/-- On a change of kind (a) or (b) the announcement of the own claims is reset (R107). -/
def unannounce (u : ClaimUnit) : ClaimUnit :=
  { u with stop := unannounceStop u.stop, announced := false, announcedEffective := none, currentHold := false }

/-! ## The answers (3.6) -/

/-- The records of the claim view that are present. -/
def ClaimUnit.records (u : ClaimUnit) : List ClaimRecord := u.view.toList.filterMap id

/-- Is any member's stop claim effective at the new cycle, the boundary's marking made (R65)? -/
def ClaimUnit.stopEffective (u : ClaimUnit) : Bool :=
  u.stop.any (·.inForce) || u.records.any fun r => r.stop.any (·.inForce)

/-- Is any member's hold set for the new cycle, the boundary's changes made (R65)? -/
def ClaimUnit.holdSet (u : ClaimUnit) : Bool :=
  u.currentHold || u.records.any (·.hold)

/-- Does any member hold a stop claim, for the offer checks (R66)? -/
def ClaimUnit.stopClaimed (u : ClaimUnit) : Bool :=
  u.stop.isSome || u.records.any fun r => r.stop.isSome

end Sys2Proof.Machine
end

