-- ==== Sys2Proof/Machine/Follower.lean ====
section
/-! DEFINITION. The section follower (Chapter 8): its work at a publication, the lag detector, reports and their supervision. -/

namespace Sys2Proof.Machine
open Sys2Proof

/-- The range of the following error (0.5.4). -/
def errorLimit : Int := 8388607

/-! ## The work at a publication (R138) -/

/-- The loop reset of a publication that carries START (R140). -/
def loopReset (f : Follower) : Follower :=
  { f with rs := 0, rem := 0, e := 0, ef := 0, integral := 0, trim := 0, overCount := 0, underCount := 0, lagHold := false, origin := none }

/-- The feed-forward (R139). -/
def feedForward (draw s : BitVec 16) (f : Follower) : Follower :=
  let q := s.toNat * draw.toNat + f.rem
  { f with f := q / 16384, rem := q % 16384, rs := f.rs + BitVec.ofNat 32 (q / 16384) }

/-- The following error from a reported position (R141, step 1). -/
def followingError (rs p origin : Position) : Int := clamp (-errorLimit) errorLimit (rs - (p - origin)).toInt

/-- The loop update from a reported position (R141). -/
def loopUpdate (cfg : ConfigRecord) (p origin : Position) (f : Follower) : Follower :=
  let e := followingError f.rs p origin
  let ef := f.ef + cfg.kf.toNat * (e - f.ef) / 32768
  let integral := clamp (-cfg.imax.toNat) cfg.imax.toNat (f.integral + cfg.ki.toNat * e / 256)
  let trim := clamp (-cfg.trimMax.toNat) cfg.trimMax.toNat (cfg.kp.toNat * e / 256 + integral)
  { f with e := e, ef := ef, integral := integral, trim := trim }

/-- The loop update where the origin is latched and a report is held; the flag says whether one was made (R141). -/
def tryLoopUpdate (cfg : ConfigRecord) (f : Follower) : Follower × Bool :=
  match f.origin, f.held with
  | some origin, some (p, _) => (loopUpdate cfg p origin f, true)
  | some _, none => (f, false)
  | none, _ => (f, false)

/-- The setpoint (R142). -/
def setpointOf (cfg : ConfigRecord) (f : Follower) : Nat := (clamp 0 cfg.ssMax.toNat (f.f + f.trim)).toNat

/-- The stopped values (R143). -/
def stoppedValues (f : Follower) : Follower :=
  { f with f := 0, e := 0, ef := 0, integral := 0, trim := 0, rem := 0, setpoint := 0 }

/-- The lag hold and both counters cleared (R145). -/
def lagClear (f : Follower) : Follower := { f with lagHold := false, overCount := 0, underCount := 0 }

/-- The lag detector's count on a loop update (Table 8-4). A count that reaches N stays there until LAG_HOLD takes
it. Where the next publication comes first, it is counted on from there: an |ef| back within the level zeroes the count, and LAG_HOLD then finds
nothing to take (R145 acts at the publication itself: DEDUCED, log entry 8). -/
def lagCount (cfg : ConfigRecord) (f : Follower) : Follower :=
  if f.lagHold then
    { f with underCount := if f.ef.natAbs < cfg.lagRelease.toNat then min (f.underCount + 1) cfg.lagCount.toNat else 0 }
  else
    { f with overCount := if f.ef.natAbs > cfg.lagLimit.toNat then min (f.overCount + 1) cfg.lagCount.toNat else 0 }

/-- Steps 2 and 3 of R138 by the published ramp state (Table 8-2). STOPPED and STOPPING zero a lag count at N that LAG_HOLD has not taken too
(DEDUCED, log entry 8). -/
def followerCompute (cfg : ConfigRecord) (ramp : RampState) (s : Speed) (f : Follower) : Follower :=
  match ramp with
  | .stopped => lagClear (stoppedValues f)
  | .stopping =>
    let g := (tryLoopUpdate cfg (feedForward cfg.draw s f)).1
    lagClear { g with setpoint := setpointOf cfg g }
  | .ramping | .steady | .held =>
    let (g, updated) := tryLoopUpdate cfg (feedForward cfg.draw s f)
    let h := { g with setpoint := setpointOf cfg g }
    if updated then lagCount cfg h else h

/-- The setpoint record as a publication writes it (R146). -/
def setpointRecord (ramp : RampState) (s : Speed) (c : Cycle) (f : Follower) : SetpointRecord :=
  { cycle := c, ramp := ramp, member := true, permit := ramp.running, lagHold := f.lagHold, originLatched := f.origin.isSome,
    setpoint := f.setpoint, f := f.f, trim := f.trim, ef := f.ef, s := s }

/-- The follower's work at a publication of a record in cycle c (R138); `started` says that it carries START. -/
def followerPublish (cfg : ConfigRecord) (r : LineRecord) (c : Cycle) (started : Bool) (f : Follower) : Follower :=
  let g := followerCompute cfg r.ramp r.s (if started then loopReset f else f)
  { g with held := none, record := setpointRecord r.ramp r.s c g }

/-- The report-miss count at a publication (R148), and whether LOCAL_SILENT is to be raised. The answer is this publication's alone: a LOCAL_SILENT
that an earlier one left due and that has not been raised is dropped where this one is STOPPED or finds a held report (DEDUCED, log entry 8). -/
def missStep (nrep : Nat) (ramp : RampState) (reported : Bool) (count : Nat) : Nat × Bool :=
  if ramp.running && !reported then
    let count' := min (count + 1) nrep
    (count', count' == nrep)
  else (0, false)

/-- The follower and the report supervision at a publication of the record as it stands (R138). A LAG_HOLD or LOCAL_SILENT still due from the
publication before is counted on or replaced (see `lagCount`, `missStep`; DEDUCED, log entry 8). -/
def State.followPublication (s : State) (started : Bool) : State :=
  let r := s.reference.record
  let (count, silent) := missStep s.cfg.reportTimeout.toNat r.ramp s.follower.held.isSome s.port.missCount
  { s with follower := followerPublish s.cfg r s.slots.cycle started s.follower,
           port := { s.port with missCount := count, silentDue := silent } }

/-! ## Idle, the lag hold, reports -/

/-- The follower goes idle (R144). A LOCAL_SILENT that the last publication left due and that has not been raised is dropped with the count
(R148 raises it at the publication: DEDUCED, log entry 8). The idle step raises it before any change of state. -/
def State.idleFollower (s : State) : State :=
  { s with follower := Follower.idle s.follower.record.cycle, port := { s.port with missCount := 0, silentDue := false } }

/-- The held report discarded (R136). -/
def State.dropReport (s : State) : State := { s with follower := { s.follower with held := none } }

/-- Is a lag count waiting at N, which is at least 1 (Table 8-4)? -/
def lagDue (n : Nat) (f : Follower) : Bool :=
  0 < n && ((!f.lagHold && f.overCount == n) || (f.lagHold && f.underCount == n))

/-- A lag count that has reached N sets or clears the lag hold, which zeroes both counters (Table 8-4); the LAG_HOLD flag of the
setpoint record shows the lag hold (R146). -/
def lagTake (n : Nat) (f : Follower) : Follower :=
  if lagDue n f then
    { f with lagHold := !f.lagHold, overCount := 0, underCount := 0, record := { f.record with lagHold := !f.lagHold } }
  else f

/-- A REPORT taken by the follower (R136): held, the origin latched on a running MEMBER line, the report-miss count at 0; then the
drive check on the record as it stands (R147). -/
def State.takeReport (s : State) (p : Position) (ready : Bool) : State :=
  let latches := s.life.state = .member ∧ s.follower.origin = none ∧ s.reference.lastPublished.running
  let f := { s.follower with held := some (p, ready) }
  let f' := if latches then { f with origin := some p, record := { f.record with originLatched := true } } else f
  let t := { s with follower := f', port := { s.port with missCount := 0 } }
  if ready = false ∧ s.life.state = .member ∧ s.reference.record.ramp.running then t.raise .driveFault else t

/-- The bytes of the F field (Table 12-7): a value above the field's range has no stated bytes (log entry 3). -/
def fBytes (f : Nat) : List Byte :=
  halfBytes (if f < 65536 then BitVec.ofNat 16 f else Config.oversizeF f)

/-- The setpoint record's body (Table 12-7). -/
def setpointBody (r : SetpointRecord) : List Byte :=
  halfBytes r.cycle ++ [r.ramp.code, setpointFlags r] ++ halfBytes (BitVec.ofNat 16 r.setpoint) ++ fBytes r.f ++
    halfBytes (BitVec.ofInt 16 r.trim) ++ wordBytes (BitVec.ofInt 32 r.ef) ++ halfBytes r.s

end Sys2Proof.Machine
end

