-- ==== Sys2Proof/Machine/Reference.lean ====
section
/-! DEFINITION. The reference unit (Chapter 1): the four steps of a boundary on a record, publication, and what it does between
boundaries. -/

namespace Sys2Proof.Machine
open Sys2Proof

/-! ## The four steps of R4, on a record -/

/-- The ramp state where a ramp stands at speed s with target t: STEADY at the target, else RAMPING (R6, R12, R13). -/
def rampOrSteady (s t : Speed) : RampState := if s = t then .steady else .ramping

/-- One boundary's speed on the way to the target, by at most the ramp step A (Table 1-3). -/
def rampSpeed (a s t : Speed) : Speed :=
  if s.toNat < t.toNat then BitVec.ofNat 16 (min (s.toNat + a.toNat) t.toNat)
  else BitVec.ofNat 16 (max (s.toNat - a.toNat) t.toNat)

/-- One boundary's speed on the way down by the stop step D (R7). -/
def stopSpeed (d s : Speed) : Speed := BitVec.ofNat 16 (s.toNat - d.toNat)

/-- Step 1, the advance (R5, R6, R7): the position gains the ending cycle's speed, then the speed is brought forward. -/
def advance (a d : Speed) (new : Cycle) (r : LineRecord) : LineRecord :=
  let p := r.p + r.s.setWidth 32
  match r.ramp with
  | .stopped => { r with p := p, s := 0 }
  | .ramping =>
    let s := rampSpeed a r.s r.t
    { r with p := p, s := s, ramp := rampOrSteady s r.t }
  | .steady => { r with p := p }
  | .held => { r with p := p }
  | .stopping =>
    let s := stopSpeed d r.s
    if s = 0 then { r with p := p, s := 0, t := 0, ramp := .stopped, stoppedSince := new } else { r with p := p, s := s }

/-- Step 2, the stop step (R8). -/
def stopStep (effective : Bool) (r : LineRecord) : LineRecord :=
  if effective && r.ramp.running then { r with ramp := .stopping, t := 0 } else r

/-- A commit that falls due: its origin, kind and target. -/
structure DueCommit where
  origin : Station
  kind : OfferKind
  target : Speed
  deriving DecidableEq, Repr

/-- Is a due commit applied to this record, or superseded (R11, R12)? -/
def commitApplies (effective : Bool) (kind : OfferKind) (r : LineRecord) : Bool :=
  match kind with
  | .start => r.ramp == .stopped && !effective
  | .rampTo => r.ramp.free

/-- A due commit on the record as the step before left it (R11, R12); a superseded one changes no field (R10). -/
def commitStep (effective : Bool) (kind : OfferKind) (target : Speed) (r : LineRecord) : LineRecord :=
  if commitApplies effective kind r then
    match kind with
    | .start => { r with ramp := .ramping, s := 0, t := target, p := 0, epoch := r.epoch + 1 }
    | .rampTo =>
      { r with t := target, epoch := r.epoch + 1, ramp := if r.ramp = .held then .held else rampOrSteady r.s target }
  else r

/-- Step 3: the due commits one at a time, in the order given, each with its outcome, APPLIED (true) or SUPERSEDED (R10). -/
def commitSteps (effective : Bool) : List DueCommit → LineRecord → LineRecord × List (DueCommit × Bool)
  | [], r => (r, [])
  | c :: rest, r =>
    let (r', outcomes) := commitSteps effective rest (commitStep effective c.kind c.target r)
    (r', (c, commitApplies effective c.kind r) :: outcomes)

/-- Step 4, the hold step (R13). -/
def holdStep (hold : Bool) (r : LineRecord) : LineRecord :=
  if r.ramp.free then
    if hold then { r with ramp := .held }
    else if r.ramp = .held then { r with ramp := rampOrSteady r.s r.t } else r
  else r

/-- The four steps of R4 in their order, with the commits' outcomes. -/
def bringForward (a d : Speed) (new : Cycle) (stop hold : Bool) (due : List DueCommit) (r : LineRecord) :
    LineRecord × List (DueCommit × Bool) :=
  let (r', outcomes) := commitSteps stop due (stopStep stop (advance a d new r))
  (holdStep hold r', outcomes)

/-- The kind of commit that a publication carries: a START applied is carried in every case, else the kind of the last applied
(R14). -/
def publishedCommit (outcomes : List (DueCommit × Bool)) : Option OfferKind :=
  let applied := (outcomes.filter (·.2)).map (·.1.kind)
  if OfferKind.start ∈ applied then some .start else applied.getLast?

/-! ## The state of the unit -/

/-- The record and its view at the values of R2, as every exit from MEMBER leaves them. The divergence mark and the last
published ramp state are kept: R1 names what changes them. -/
def State.clearReference (s : State) : State :=
  { s with reference := { s.reference with record := LineRecord.reset, view := LineRecord.reset, viewCycle := 0 } }

/-- RAMP_STATE, posted where the published ramp state differs from the previous publication (R14), which the record then is. -/
def State.postRampState (s : State) : State :=
  let ramp := s.reference.record.ramp
  let t := { s with reference := { s.reference with lastPublished := ramp } }
  if ramp = s.reference.lastPublished then t else t.post .rampState 0 ramp.code s.reference.record.s

/-- A late stop (R17): at a MEMBER whose record runs freely, STOPPING with T = 0 at once. -/
def State.lateStop (s : State) : State :=
  if s.life.state = .member ∧ s.reference.record.ramp.free then
    { s with reference := { s.reference with record := { s.reference.record with ramp := .stopping, t := 0 } } }
  else s

/-- The snap test (R18), on the record. -/
def snap (f : ReferencePart) (r : LineRecord) : LineRecord :=
  if r.ramp = .stopping ∧ (f.ramp = .stopping ∨ f.ramp = .stopped) ∧ f.s.toNat < r.s.toNat then { r with s := f.s } else r

/-- Does the digest comparison act on this pair of ramp states (R19)? -/
def compares (own sender : RampState) : Bool :=
  (own.free && sender.free) || (own == .stopped && sender.free) || (own.free && sender == .stopped)

/-- Does a field of Table 1-5 differ? -/
def digestDiffers (f : ReferencePart) (frameSet ownSet : StationSet) (r : LineRecord) : Bool :=
  !(f.ramp == r.ramp && f.t == r.t && f.s == r.s && f.pLow == r.p.setWidth 16 && f.epoch == r.epoch && frameSet == ownSet)

/-- The reference part of a frame from a member, at a MEMBER receiver (R16): the snap test, then the digest comparison, which
raises DIVERGENCE at the first mismatch of the cycle (R19). -/
def State.takeReferencePart (s : State) (f : Frame) : State :=
  let t := { s with reference := { s.reference with record := snap f.reference s.reference.record } }
  if f.state = .member ∧ compares t.reference.record.ramp f.reference.ramp ∧
      digestDiffers f.reference f.members t.memberSet t.reference.record ∧ ¬ t.reference.divergence then
    State.raise { t with reference := { t.reference with divergence := true } } .divergence
  else t

/-- A refresh of the observed view (R20): every field from the frame, the high 16 bits of P at 0. -/
def viewOf (f : ReferencePart) : LineRecord :=
  { ramp := f.ramp, s := f.s, t := f.t, p := f.pLow.setWidth 32, epoch := f.epoch, stoppedSince := f.stoppedSince }

end Sys2Proof.Machine
end

