-- ==== Sys2Proof/Machine/ClaimView.lean ====
section
/-! DEFINITION. The claim view (3.5): a MEMBER's record of every other member's claims. -/

namespace Sys2Proof.Machine
open Sys2Proof

/-- The claim view with one record replaced. -/
def State.setRecord (s : State) (k : Station) (r : Option ClaimRecord) : State :=
  { s with claims := { s.claims with view := s.claims.view.set k r } }

/-- A stop claim first heard (R62): recorded, STOP_CLAIM posted, and in force with a late stop where it is due. -/
def State.firstHeardStop (s : State) (k : Station) (r : ClaimRecord) (cause : StopCause) (e : Cycle) : State :=
  let due := !ahead e s.slots.cycle
  let heard : HeardStop := { cause := cause, effective := e, inForce := due }
  let t := (s.setRecord k (some { r with stop := some heard })).post .stopClaim (stationNumber k) cause.code e
  if due then t.lateStop else t

/-- The hold of a record newly created from a hold pair (R61). -/
def newHold (hold : Bool) (e c : Cycle) : ClaimRecord :=
  if ahead e c then { stop := none, hold := !hold, pendingHold := some (hold, e) }
  else { stop := none, hold := hold, pendingHold := none }

/-- A record created at admission or at first hearing (R61). -/
def State.createRecord (s : State) (k : Station) (stop : Option (StopCause × Cycle)) (hold : Bool) (e : Cycle) : State :=
  let r := newHold hold e s.slots.cycle
  match stop with
  | none => s.setRecord k (some r)
  | some (cause, effective) => s.firstHeardStop k r cause effective

/-- The stop part of a member's frame (Table 3-6). With no record yet, the record is created from the frame (R61). -/
def State.takeStopPart (s : State) (f : Frame) : State :=
  match s.claims.view[f.station] with
  | none => s.createRecord f.station (f.stopCause.map fun cause => (cause, f.stopEffective)) f.hold f.holdEffective
  | some r =>
    match f.stopCause with
    | none => s.setRecord f.station (some { r with stop := none })
    | some cause =>
      if r.stop.any fun k => k.cause == cause && k.effective == f.stopEffective then s
      else s.firstHeardStop f.station r cause f.stopEffective

/-- Is the hold pair of a frame taken by the test of R63, or does it change nothing? -/
def holdPairTaken (r : ClaimRecord) (hold : Bool) (e : Cycle) : Bool :=
  match r.pendingHold with
  | some pair => pair != (hold, e)
  | none => hold != r.hold

/-- The hold part of a member's frame (R63). -/
def State.takeHoldPart (s : State) (f : Frame) : State :=
  match s.claims.view[f.station] with
  | none => s
  | some r =>
    if holdPairTaken r f.hold f.holdEffective then
      if ahead f.holdEffective s.slots.cycle then
        s.setRecord f.station (some { r with pendingHold := some (f.hold, f.holdEffective) })
      else if f.hold = r.hold then s.setRecord f.station (some { r with pendingHold := none })
      else (s.setRecord f.station (some { r with hold := f.hold, pendingHold := none })).raise .missedChange
    else s

/-- A record at a boundary (R64): a pending hold due becomes current, a stop claim due is marked in force. -/
def recordBoundary (new : Cycle) (r : ClaimRecord) : ClaimRecord :=
  let r' := { r with stop := r.stop.map fun k => { k with inForce := k.inForce || k.effective == new } }
  match r.pendingHold with
  | none => r'
  | some (hold, e) => if e = new then { r' with hold := hold, pendingHold := none } else r'

/-- The claim unit at a boundary of a MEMBER station (R51, R60, R64). -/
def claimsBoundary (new : Cycle) (u : ClaimUnit) : ClaimUnit :=
  ownClaimsBoundary new { u with view := u.view.map fun r => r.map (recordBoundary new) }

end Sys2Proof.Machine
end

