-- ==== Sys2Proof/Machine/Agreement.lean ====
section
/-! DEFINITION. The agreement unit (Chapter 2): the offer checks, the life of the own entry, verdicts, and the receivers' side. -/

namespace Sys2Proof.Machine
open Sys2Proof

/-! ## Posting -/

/-- OFFER_RESULT (R37): the value's high byte is the serial, its low byte the reason for REFUSED and DROPPED (12.7). -/
def State.postOfferResult (s : State) (outcome : OfferOutcome) (serial : Byte) (station : Nat) (reason : Byte) : State :=
  s.post .offerResult station outcome.code (serial ++ reason)

/-! ## Validation (2.2) -/

/-- Is the own entry open: OFFERED, or COMMITTED and not yet processed (R22)? -/
def OwnEntry.isOpen (e : OwnEntry) : Bool :=
  match e.phase with
  | .queued => false
  | .offered _ => true
  | .committed _ _ _ => true
  | .withdrawn _ _ _ => false

/-- Does the conflict check fail for the entry of this origin: is there another open entry that carries this station's
acknowledgement (R25)? Every entry of another origin is open while the table holds it. -/
def Agreement.conflicts (g : Agreement) (own checked : Station) : Bool :=
  (checked != own && g.own.any (·.isOpen)) || g.others.any fun e => e.origin != checked && e.verdict == some .ack

/-- The checks of Table 2-3 in their order, with the reason of the first that fails (R24). `voters` is present when a voter
checks; `checked` is the origin of the entry checked. -/
def State.offerCheck (s : State) (kind : OfferKind) (target : Speed) (voters : Option StationSet) (checked : Station) :
    Option Reason :=
  let ramp := s.reference.record.ramp
  let last : Option Reason :=
    if target.toNat = 0 ∨ s.cfg.smax.toNat < target.toNat then some .outOfRange
    else if s.agreement.conflicts s.own checked then some .conflict else none
  match kind with
  | .start =>
    if ramp ≠ .stopped then some .notStopped
    else if s.claims.stopClaimed then some .stopClaimed
    else if voters.any (· != s.memberSet) then some .membership
    else last
  | .rampTo =>
    if ramp = .stopping then some .lineStopping
    else if ramp = .stopped then some .notRunning
    else last

/-! ## The own entry -/

/-- The agreement unit with another own entry. -/
def State.setOwnEntry (s : State) (e : Option OwnEntry) : State :=
  { s with agreement := { s.agreement with own := e } }

/-- OFFER_START and OFFER_RAMP (R26). -/
def State.takeOffer (s : State) (kind : OfferKind) (target : Speed) : State × Result × List Byte :=
  if s.life.state ≠ .member then (s, .wrongState, [])
  else if s.agreement.own.isSome then (s, .busy, [])
  else match s.offerCheck kind target none s.own with
    | some why => (s, why.result, [])
    | none =>
      let serial := s.agreement.serial + 1
      let e : OwnEntry := { serial := serial, kind := kind, target := target, phase := .queued }
      ({ s with agreement := { s.agreement with own := some e, serial := serial } }, .ok, [serial])

/-- The own entry at an own-slot start of a MEMBER station, verdicts given (R47, step 2): a QUEUED entry is offered or dropped
(R27), an OFFERED one is withdrawn on a refusal (R31) or committed on full acknowledgement (R30). -/
def State.dealOwnEntry (s : State) : State :=
  match s.agreement.own with
  | none => s
  | some e =>
    match e.phase with
    | .queued =>
      match s.offerCheck e.kind e.target none s.own with
      | some why => (s.setOwnEntry none).postOfferResult .dropped e.serial 0 why.code
      | none =>
        let ballot : Ballot :=
          { firstOffered := s.slots.cycle, voters := s.memberSet, acks := singleton s.own, refusal := none }
        s.setOwnEntry (some { e with phase := .offered ballot })
    | .offered ballot =>
      match ballot.refusal with
      | some (k, why) =>
        (s.setOwnEntry (some { e with phase := .withdrawn ballot .refused 0 })).postOfferResult .refused e.serial
          (stationNumber k) why.code
      | none =>
        if subset (ballot.voters &&& s.memberSet) ballot.acks then
          s.setOwnEntry (some { e with phase := .committed ballot (lead s.slots.cycle) 0 })
        else s
    | .committed _ _ _ => s
    | .withdrawn _ _ _ => s

/-- The decision that the own entry still has to announce (R33). -/
def OwnEntry.decision (e : OwnEntry) : Option DecisionPart :=
  match e.phase with
  | .queued => none
  | .offered _ => none
  | .committed _ effective announced =>
    if announced < Config.announcementLimit then some { serial := e.serial, outcome := .commit, effective := effective } else none
  | .withdrawn _ why announced =>
    if announced < Config.announcementLimit then some { serial := e.serial, outcome := .withdraw why, effective := 0 } else none

/-- The offer that the own entry carries (R28). -/
def OwnEntry.offer (e : OwnEntry) : Option OfferPart :=
  match e.phase with
  | .queued => none
  | .offered b =>
    some { serial := e.serial, kind := e.kind, target := e.target, firstOffered := b.firstOffered, voters := b.voters }
  | .committed _ _ _ => none
  | .withdrawn _ _ _ => none

/-- The own entry once a frame carrying its decision has been assembled (R33). -/
def OwnEntry.announce (e : OwnEntry) : OwnEntry :=
  match e.phase with
  | .queued => e
  | .offered _ => e
  | .committed b effective announced =>
    if announced < Config.announcementLimit then { e with phase := .committed b effective (announced + 1) } else e
  | .withdrawn b why announced =>
    if announced < Config.announcementLimit then { e with phase := .withdrawn b why (announced + 1) } else e

/-- WITHDRAW_OFFER (Table 2-4). -/
def State.withdrawOwn (s : State) : State × Result :=
  match s.agreement.own with
  | none => (s, .wrongState)
  | some e =>
    match e.phase with
    | .queued => ((s.setOwnEntry none).postOfferResult .originWithdrew e.serial 0 0, .ok)
    | .offered b =>
      ((s.setOwnEntry (some { e with phase := .withdrawn b .originWithdrew 0 })).postOfferResult .originWithdrew e.serial 0 0,
        .ok)
    | .committed _ _ _ => (s, .tooLate)
    | .withdrawn _ _ _ => (s, .wrongState)

/-- LEAVE with an own entry (R36). -/
def State.leaveOwn (s : State) : State :=
  match s.agreement.own with
  | none => s
  | some e =>
    match e.phase with
    | .queued => (s.setOwnEntry none).postOfferResult .originLeaving e.serial 0 0
    | .offered b =>
      (s.setOwnEntry (some { e with phase := .withdrawn b .originLeaving 0 })).postOfferResult .originLeaving e.serial 0 0
    | .committed _ _ _ => s
    | .withdrawn _ _ _ => s

/-- Has the own OFFERED entry reached its deadline (R32)? -/
def State.ownExpired (s : State) : Option (OwnEntry × Ballot) :=
  match s.agreement.own with
  | none => none
  | some e =>
    match e.phase with
    | .queued => none
    | .offered b => if s.slots.cycle = b.firstOffered + s.offerDeadline then some (e, b) else none
    | .committed _ _ _ => none
    | .withdrawn _ _ _ => none

/-- The table emptied at an exit (R23): an own entry other than a WITHDRAWN one is posted DISCARDED. -/
def State.discardTable (s : State) : State :=
  let t := { s with agreement := { s.agreement with own := none, others := [] } }
  match s.agreement.own with
  | none => t
  | some e =>
    match e.phase with
    | .queued => t.postOfferResult .discarded e.serial 0 0
    | .offered _ => t.postOfferResult .discarded e.serial 0 0
    | .committed _ _ _ => t.postOfferResult .discarded e.serial 0 0
    | .withdrawn _ _ _ => t

/-! ## Verdicts (R38, R39) -/

/-- The entry of another origin. -/
def Agreement.other? (g : Agreement) (k : Station) : Option OtherEntry := g.others.find? fun e => e.origin == k

/-- The table with the entry of another origin changed. -/
def State.updateOther (s : State) (k : Station) (change : OtherEntry → OtherEntry) : State :=
  { s with agreement := { s.agreement with others := s.agreement.others.map fun e => if e.origin = k then change e else e } }

/-- The table without the entry of another origin. -/
def State.removeOther (s : State) (k : Station) : State :=
  { s with agreement := { s.agreement with others := s.agreement.others.filter fun e => e.origin != k } }

/-- Does an entry await this station's verdict (R38)? -/
def OtherEntry.awaits (e : OtherEntry) (own : Station) : Bool :=
  e.effective.isNone && e.verdict.isNone && contains e.voters own

/-- One verdict, on the table as the verdicts before it left it (R38). -/
def State.giveVerdict (s : State) (e : OtherEntry) : State :=
  let verdict := match s.offerCheck e.kind e.target (some e.voters) e.origin with
    | none => Verdict.ack
    | some why => Verdict.refuse why
  s.updateOther e.origin fun d => { d with verdict := some verdict }

/-- The verdicts of an own-slot start, in recording order (R38). -/
def State.giveVerdicts (s : State) : State :=
  (s.agreement.others.filter (·.awaits s.own)).foldl State.giveVerdict s

/-- The response an entry calls for (R39). -/
def OtherEntry.response (e : OtherEntry) : Option ResponsePart :=
  if e.effective.isNone then e.verdict.map fun v => { origin := e.origin, serial := e.serial, verdict := v } else none

/-- The response list, in ascending order of origin (R39). -/
def Agreement.responses (g : Agreement) : List ResponsePart :=
  allStations.filterMap fun k => (g.other? k).bind (·.response)

/-! ## The receivers' side (2.4) -/

/-- An offer heard (R40): a new entry goes last in the recording order, replacing an entry of the origin with another serial. -/
def State.recordOffer (s : State) (k : Station) (o : OfferPart) : State :=
  let entry : OtherEntry :=
    { origin := k, serial := o.serial, kind := o.kind, target := o.target, firstOffered := o.firstOffered, voters := o.voters,
      verdict := none, effective := none }
  let append (t : State) : State := { t with agreement := { t.agreement with others := t.agreement.others ++ [entry] } }
  match s.agreement.other? k with
  | none => append s
  | some e => if e.serial = o.serial then s else append (s.removeOther k)

/-- A decision heard (R41, R42, R43). -/
def State.takeDecision (s : State) (k : Station) (d : DecisionPart) : State :=
  let held := (s.agreement.other? k).any (·.serial == d.serial)
  match d.outcome with
  | .commit =>
    if held then s.updateOther k fun e => { e with effective := some (e.effective.getD d.effective) }
    else if s.life.state = .member then s.raise .missedChange else s
  | .withdraw _ => if held then s.removeOther k else s

/-- One response read by the origin (R29). -/
def Ballot.collect (b : Ballot) (k : Station) (v : Verdict) : Ballot :=
  if !contains b.voters k || contains b.acks k || b.refusal.any (·.1 == k) then b
  else match v with
    | .ack => { b with acks := setInsert b.acks k }
    | .refuse why => { b with refusal := some (b.refusal.getD (k, why)) }

/-- The responses of a member's frame, at a station with an own OFFERED entry (R29). -/
def State.collectVerdicts (s : State) (k : Station) (responses : List ResponsePart) : State :=
  match s.agreement.own with
  | none => s
  | some e =>
    match e.phase with
    | .queued => s
    | .offered b =>
      let mine := responses.filter fun r => r.origin == s.own && r.serial == e.serial
      s.setOwnEntry (some { e with phase := .offered (mine.foldl (fun b r => b.collect k r.verdict) b) })
    | .committed _ _ _ => s
    | .withdrawn _ _ _ => s

/-- The offer and decision parts of a frame (R40 to R43). -/
def State.takeProposalParts (s : State) (f : Frame) : State :=
  let s := match f.offer with
    | none => s
    | some o => if f.state = .member ∧ s.life.state ≠ .leaving then s.recordOffer f.station o else s
  match f.decision with
  | none => s
  | some d => s.takeDecision f.station d

/-- The agreement part of a member's frame: offer and decision, and the responses at a MEMBER receiver (Table 6-7). -/
def State.takeAgreementPart (s : State) (f : Frame) : State :=
  let t := s.takeProposalParts f
  if t.life.state = .member then t.collectVerdicts f.station f.responses else t

/-- Is an entry of another origin at the end of its grace period (R43)? -/
def State.graceOver (s : State) (e : OtherEntry) : Bool :=
  e.effective.isNone && s.slots.cycle == e.firstOffered + s.offerDeadline + 2

/-- Quiet removal at the end of the grace period (R43). -/
def State.removeGraceOver (s : State) : State :=
  { s with agreement := { s.agreement with others := s.agreement.others.filter fun e => !s.graceOver e } }

/-! ## The effective boundary (R10, R34, R44) -/

/-- The own entry as a due commit. -/
def OwnEntry.dueAt (e : OwnEntry) (new : Cycle) : Bool :=
  match e.phase with
  | .queued => false
  | .offered _ => false
  | .committed _ effective _ => effective == new
  | .withdrawn _ _ _ => false

/-- The commits that fall due at the new cycle, own entries included, in ascending order of origin (R10). -/
def State.dueCommits (s : State) (new : Cycle) : List DueCommit :=
  allStations.filterMap fun k =>
    if k = s.own then
      (s.agreement.own.filter (·.dueAt new)).map fun e => { origin := k, kind := e.kind, target := e.target }
    else
      ((s.agreement.other? k).filter (·.effective == some new)).map fun e =>
        { origin := k, kind := e.kind, target := e.target }

/-- The due entries removed (R44). -/
def State.removeDue (s : State) (new : Cycle) : State :=
  { s with agreement := { s.agreement with
      own := s.agreement.own.filter (!·.dueAt new), others := s.agreement.others.filter (·.effective != some new) } }

/-- The notices of one processed commit (R34, R44): OFFER_RESULT for the own entry, CHANGE_APPLIED where it was applied. -/
def State.postCommit (serial : Byte) (s : State) (outcome : DueCommit × Bool) : State :=
  let (c, applied) := outcome
  let t := if c.origin = s.own then s.postOfferResult (if applied then .applied else .superseded) serial 0 0 else s
  if applied then t.post .changeApplied (stationNumber c.origin) c.kind.code c.target else t

/-- The agreement unit's boundary work on the outcomes that the reference unit reports (R44). -/
def State.processCommits (s : State) (new : Cycle) (outcomes : List (DueCommit × Bool)) : State :=
  let serial := (s.agreement.own.map (·.serial)).getD 0
  outcomes.foldl (State.postCommit serial) (s.removeDue new)

/-- The boundary of a LEAVING station: every due commit is SUPERSEDED and removed, and only the own one is posted (R44). -/
def State.supersedeCommits (s : State) (new : Cycle) : State :=
  let t := s.removeDue new
  match s.agreement.own with
  | none => t
  | some e => if e.dueAt new then t.postOfferResult .superseded e.serial 0 0 else t

/-! ## Removal of a member (R45) -/

/-- A ballot without a removed station. -/
def Ballot.drop (b : Ballot) (k : Station) : Ballot :=
  { b with acks := setRemove b.acks k, refusal := b.refusal.filter (·.1 != k) }

/-- The table when the roster removes station k (R45). -/
def State.dropOrigin (s : State) (k : Station) : State :=
  let t := s.removeOther k
  match t.agreement.own with
  | none => t
  | some e =>
    match e.phase with
    | .queued => t
    | .offered b => t.setOwnEntry (some { e with phase := .offered (b.drop k) })
    | .committed _ _ _ => t
    | .withdrawn _ _ _ => t

end Sys2Proof.Machine
end

