-- ==== Sys2Proof/Machine/SlotTiming.lean ====
section
/-! DEFINITION. The slot timer's arithmetic (7.6): slot times, adoption, founding, re-alignment and the move to a new cycle. -/

namespace Sys2Proof.Machine
open Sys2Proof

/-- The time of a frame of this many bytes at a rate code, in quarters of a microsecond: 11 bits a character at 1, 0.5 or 0.25
microseconds a bit (R122). -/
def frameQuarters (rateCode : BitVec 8) (bytes : Nat) : Nat :=
  let bits := bytes * Config.bitsPerCharacter
  if rateCode = 1 then bits * 4 else if rateCode = 2 then bits * 2 else bits

/-- The time of a frame of this many bytes at a rate code, rounded down to whole microseconds (R132). -/
def frameMicros (rateCode : BitVec 8) (bytes : Nat) : Nat := frameQuarters rateCode bytes / 4

/-- The start of the sender's slot from its frame's end time and length (R132, R133). -/
def slotStartOf (rateCode : BitVec 8) (endTime bytes : Nat) : Int :=
  (endTime : Int) - frameMicros rateCode bytes - Config.transmitOffset

/-- The stations whose slots precede slot k. -/
def slotsBelow (k : Station) : StationSet := setOf fun j => j.val < k.val

/-- The slot after slot k in the cycle, slot 16 staying itself. -/
def nextSlot (k : Station) : Station := if h : k.val + 1 < 16 then ⟨k.val + 1, h⟩ else k

/-- Timing adopted from a frame of station k (R132). -/
def adoptedTiming (own k : Station) (start : Int) : Timing :=
  { refStart := start, refSlot := k, currentSlot := k, closesRaised := slotsBelow k, ownStartRaised := own.val < k.val,
    lateClose := none }

/-- Timing at founding (R132): the own slot starts now, its start raised, and the closes below it marked raised. -/
def foundedTiming (own : Station) (now : Int) : Timing :=
  { refStart := now, refSlot := own, currentSlot := own, closesRaised := slotsBelow own, ownStartRaised := true,
    lateClose := none }

/-- The start of slot k of the current cycle (R130). -/
def Timing.slotStart (t : Timing) (slotLength : Nat) (k : Station) : Int :=
  t.refStart + ((k.val : Int) - t.refSlot.val) * slotLength

/-- The end of slot 16, where the cycle ends (R131). -/
def Timing.cycleEnd (t : Timing) (slotLength : Nat) : Int :=
  t.refStart + (16 - (t.refSlot.val : Int)) * slotLength

/-- The timing of the cycle that a boundary begins (R131). A close of slot 16 not yet raised is still to come. -/
def Timing.newCycle (t : Timing) (slotLength : Nat) (heard16 : Bool) : Timing :=
  { refStart := t.cycleEnd slotLength, refSlot := 0, currentSlot := 0, closesRaised := 0, ownStartRaised := false,
    lateClose := if contains t.closesRaised 15 then none else some heard16 }

/-- The closes that a re-alignment on a frame of station k raises at once, in ascending order (Table 7-6): from the old current
slot up to the one before k, but for those already raised. -/
def Timing.closesAtRealign (t : Timing) (k : Station) : List Station :=
  allStations.filter fun j => t.currentSlot.val ≤ j.val && j.val < k.val && !contains t.closesRaised j

/-- The timing after a re-alignment on a frame of station k (R133): an own-slot start for a slot after the old one, up to k, is
marked raised. The closes are raised by `closesAtRealign`. -/
def Timing.realigned (t : Timing) (own k : Station) (start : Int) : Timing :=
  { t with refStart := start, refSlot := k, currentSlot := k,
           ownStartRaised := t.ownStartRaised || (t.currentSlot.val < own.val && own.val ≤ k.val) }

/-- The timing once the close of slot j has been raised (R131). -/
def Timing.closed (t : Timing) (j : Station) : Timing :=
  { t with closesRaised := setInsert t.closesRaised j,
           currentSlot := if t.currentSlot.val ≤ j.val then nextSlot j else t.currentSlot }

/-- Is slot j over at this instant, its close raised (R130)? -/
def Timing.isOver (t : Timing) (slotLength : Nat) (now : Int) (j : Station) : Bool :=
  contains t.closesRaised j && decide (t.slotStart slotLength j + slotLength ≤ now)

/-- The current slot at an instant of the clock (R130): it moves on past each slot that is over and whose close has been raised. Where the
close is still to be raised, the close moves it. -/
def Timing.slotAt (t : Timing) (slotLength : Nat) (now : Int) : Station :=
  allStations.foldl (fun current j => if current = j ∧ t.isOver slotLength now j then nextSlot j else current) t.currentSlot

/-- The timing at an instant of the clock. -/
def Timing.passed (t : Timing) (slotLength : Nat) (now : Int) : Timing := { t with currentSlot := t.slotAt slotLength now }

/-- The timing once the own-slot start has been raised (R131). -/
def Timing.ownStarted (t : Timing) (own : Station) : Timing := { t with ownStartRaised := true, currentSlot := own }

end Sys2Proof.Machine
end

