-- ==== Sys2Proof/Machine/Membership.lean ====
section
/-! DEFINITION. The roster (Chapter 4): missed slots, removal, candidates, admission, departure. -/

namespace Sys2Proof.Machine
open Sys2Proof

/-! ## Missed slots (R76) -/

/-- The roster at the close of a slot, for a station other than the own: a heard frame zeroes the missed count, and an empty slot
counts one for an entry that is not ABSENT. A count that reaches M stays there until MISSED_LIMIT takes it (R77). -/
def State.countSlot (s : State) (k : Station) (heard : Bool) : State :=
  if k = s.own then s
  else
    let e := s.roster.entries[k]
    if heard then s.setEntry k { e with missed := 0 }
    else if e.state = .absent then s
    else s.setEntry k { e with missed := min (e.missed + 1) s.missedLimit }

/-- The close of a slot (R131): the slot timer raises it at most once a cycle, and the roster counts it. It is taken whenever the command
says, whatever the clock shows (DESIGN CHOICE, log entry 10). -/
def State.closeSlot (s : State) (j : Station) : State :=
  match s.slots.timing with
  | none => s
  | some t =>
    match t.lateClose with
    | some heard =>
      if j.val = 15 then
        State.countSlot { s with slots := { s.slots with timing := some { t with lateClose := none } } } j heard
      else if contains t.closesRaised j then s
      else State.countSlot { s with slots := { s.slots with timing := some (t.closed j) } } j (contains s.roster.heard j)
    | none =>
      if contains t.closesRaised j then s
      else State.countSlot { s with slots := { s.slots with timing := some (t.closed j) } } j (contains s.roster.heard j)

/-- The slot timer re-aligns on a frame of station k that ended at `endTime` after `bytes` bytes (R133). -/
def State.realign (s : State) (k : Station) (endTime bytes : Nat) : State :=
  match s.slots.timing with
  | none => s
  | some t =>
    let s' := (t.closesAtRealign k).foldl State.closeSlot s
    let t' := (s'.slots.timing.getD t)
    let t'' := Timing.realigned { t' with currentSlot := t.currentSlot } s.own k (slotStartOf s.cfg.rateCode endTime bytes)
    { s' with slots := { s'.slots with timing := some t'' } }

/-! ## Removal (R78) -/

/-- The entry that a removal leaves (R77, R78 step 1; that LEFT zeroes the missed count is DEDUCED, log entry 15). -/
def removedEntry (reason : RemovalReason) (e : RosterEntry) : RosterEntry :=
  match reason with
  | .missed => { RosterEntry.reset with lastHeard := e.lastHeard, digestHeard := e.digestHeard }
  | .left => { e with state := .absent, missed := 0, leaveDue := none, joiningSince := none, cycleMismatch := false }
  | .restarted => { e with state := .candidate, leaveDue := none, joiningSince := none, cycleMismatch := false }

/-- A removal of station k (R78): its entry, the notice, the other units, and MEMBER_LOST where the line is not STOPPED. -/
def State.removeMember (s : State) (k : Station) (reason : RemovalReason) : State :=
  let t := s.setEntry k (removedEntry reason s.roster.entries[k])
  let t := t.post .memberRemoved (stationNumber k) reason.code t.memberSet
  let t := (t.dropOrigin k).setRecord k none
  if t.life.state = .member ∧ t.reference.record.ramp.running then t.raise .memberLost else t

/-- The missed count of an entry has reached M (R77). -/
def State.takeMissedLimit (s : State) (k : Station) : State :=
  let e := s.roster.entries[k]
  if e.state = .member then s.removeMember k .missed else s.setEntry k (removedEntry .missed e)

/-- Is the missed count of this station's entry at M? -/
def State.missedDue (s : State) (k : Station) : Bool :=
  k != s.own && s.roster.entries[k].state != .absent && s.roster.entries[k].missed == s.missedLimit

/-! ## Admission (R82, R84) -/

/-- Admission of station k (R84): its entry, MEMBER_ADDED, and its claim view record from its joining claims. No voter set changes (R46). -/
def State.admitStation (s : State) (k : Station) (late : Bool) : State :=
  let e := s.roster.entries[k]
  let t := s.setEntry k { e with state := .member, admissionDue := none }
  let t := t.post .memberAdded (stationNumber k) (flagByte late) t.memberSet
  match e.joiningClaims with
  | none => t.createRecord k none false t.slots.cycle
  | some j => t.createRecord k j.stop j.hold j.holdEffective

/-- The due cycle of a candidate (R82): two cycles after the later of its joining-since and the own stopped-since. -/
def admissionDueCycle (c joiningSince stoppedSince : Cycle) : Cycle :=
  lead (if (c - joiningSince).toNat ≤ (c - stoppedSince).toNat then joiningSince else stoppedSince)

/-- The admission test on a JOINING frame taken while the record is STOPPED (R82). -/
def State.admissionTest (s : State) (k : Station) (joiningSince : Cycle) : State :=
  let due := admissionDueCycle s.slots.cycle joiningSince s.reference.record.stoppedSince
  if ahead due s.slots.cycle then s.setEntry k { s.roster.entries[k] with admissionDue := some due }
  else s.admitStation k true

/-! ## Frames that count as heard -/

/-- A frame from station k counts as heard (R69, R76): its cycle and digest are kept, and it is marked accepted in its own slot
where that is the slot it was accepted in. -/
def State.hear (s : State) (f : Frame) (ownSlot : Bool) : State :=
  let e := s.roster.entries[f.station]
  let t := s.setEntry f.station { e with lastHeard := s.slots.cycle, digestHeard := f.digest }
  if ownSlot then { t with roster := { t.roster with heard := setInsert t.roster.heard f.station } } else t

/-- The claims of a JOINING frame (R81 step 2): stop cause none records no stop claim. -/
def joiningClaimsOf (f : Frame) : JoiningClaims :=
  { stop := f.stopCause.map fun cause => (cause, f.stopEffective), hold := f.hold, holdEffective := f.holdEffective }

/-- The fields that a candidate's frame gives its entry (R81 step 2). -/
def candidateEntry (f : Frame) (e : RosterEntry) : RosterEntry :=
  { e with restartCause := f.restartCause, joiningSince := some f.joiningSince, joiningClaims := some (joiningClaimsOf f),
           admissionDue := if e.joiningSince = some f.joiningSince then e.admissionDue else none }

/-- A frame that counts as heard is taken as a candidate's (R81, R85). At a LEAVING receiver only step 2 is taken. -/
def State.takeCandidate (s : State) (f : Frame) : State :=
  let k := f.station
  let e := s.roster.entries[k]
  if s.life.state = .leaving then s.setEntry k (candidateEntry f e)
  else
    let t := s.setEntry k (candidateEntry f { e with state := .candidate })
    let t := if e.state = .candidate then t
      else t.post .candidateHeard (stationNumber k) (codeOr0 RestartCause.code f.restartCause) f.joiningSince
    if t.reference.record.ramp = .stopped then t.admissionTest k f.joiningSince else t

/-- A JOINING frame from a member, with the own count and digest (R80). With the joining-since recorded it counts as heard, so it ends a
cycle mismatch too (R73; R80 says that nothing else changes: DEDUCED, log entry 14). -/
def State.takeMemberJoining (s : State) (f : Frame) : State :=
  let k := f.station
  let e := s.roster.entries[k]
  if e.joiningSince = some f.joiningSince then
    s.setEntry k { e with restartCause := f.restartCause, joiningClaims := some (joiningClaimsOf f), cycleMismatch := false }
  else
    let t := s.removeMember k .restarted
    let t := t.post .peerRestarted (stationNumber k) (codeOr0 RestartCause.code f.restartCause) f.joiningSince
    t.takeCandidate f

/-! ## The publication of a due cycle (R79, R83) -/

/-- One entry at a publication: a departure due is taken, and an admission due is decided by the published ramp state. -/
def State.rosterPublication (s : State) (k : Station) : State :=
  let e := s.roster.entries[k]
  if k = s.own then s
  else if e.state = .member ∧ e.leaveDue = some s.slots.cycle then s.removeMember k .left
  else if e.state = .candidate ∧ e.admissionDue = some s.slots.cycle then
    if s.reference.lastPublished = .stopped then s.admitStation k false else s.setEntry k { e with admissionDue := none }
  else s

/-- One entry at a boundary of a LEAVING station: a departure due is taken (R79). -/
def State.rosterDeparture (s : State) (k : Station) : State :=
  let e := s.roster.entries[k]
  if k ≠ s.own ∧ e.state = .member ∧ e.leaveDue = some s.slots.cycle then s.removeMember k .left else s

/-- Every admission due cycle dropped (R83, R105). -/
def State.dropAdmissions (s : State) : State :=
  { s with roster := { s.roster with entries := s.roster.entries.map fun e => { e with admissionDue := none } } }

/-- The roster of a station that becomes MEMBER with an adopted member set (R71). -/
def adoptedRoster (own : Station) (members : StationSet) : Roster :=
  { entries := Vector.ofFn fun k : Fin 16 =>
      if k ≠ own ∧ contains members k then { RosterEntry.reset with state := .member } else RosterEntry.reset
    heard := 0 }

end Sys2Proof.Machine
end

