-- ==== Sys2Proof/Machine/LifeCycle.lean ====
section
/-! DEFINITION. The changes of station state and what each does to the other blocks (Chapter 5, Table 5-6), and the reset (R88). -/

namespace Sys2Proof.Machine
open Sys2Proof

/-! ## Pieces of Table 5-6 -/

/-- The slot timer without timing, the cycle count 0 (R130). -/
def State.dropTiming (s : State) : State :=
  { s with slots := { s.slots with timing := none, cycle := 0, atBoundary := false } }

/-- A transmission in progress is cut, and an assembled frame discarded (R114, R126; that a frame not yet begun is discarded too is DEDUCED,
log entry 13). -/
def State.cutTransmission (s : State) : State :=
  { s with bus := { s.bus with transmit := .idle, bde := false, btxIdle := true }, assembled := none }

/-- Every entry of another number at its reset values (R70, R71). -/
def State.emptyRoster (s : State) : State := { s with roster := Roster.reset }

/-- The claim view emptied and RUN_PERMIT deasserted, as on every exit from MEMBER (R61, R67). -/
def State.closeClaims (s : State) : State :=
  { s with claims := { s.claims with view := Vector.replicate 16 none, runPermit := false } }

/-- The announcement of the own claims reset (R107). -/
def State.unannounceClaims (s : State) : State := { s with claims := unannounce s.claims }

/-- The exclusion evidence of a new cycle (R98). -/
def LifeCycle.clearEvidence (l : LifeCycle) : LifeCycle :=
  { l with memberHeard := false, ownSeen := false, firstSet := none }

/-- The listen window started (R92): 32 slot lengths. -/
def State.listenWindow (s : State) : Nat := Config.listenWindowSlots * s.slotLength

/-- Everything but the station state, the timing and the table that a change of kind (a) does (Table 5-6, column (a)). -/
def State.leaveBlocks (s : State) : State :=
  let t := s.clearReference.cutTransmission.emptyRoster.closeClaims.unannounceClaims.idleFollower
  { t with life := LifeCycle.clearEvidence { t.life with
      listenTimer := none, quiet := 0, exclusion := 0, joiningSince := none, admitting := none, joinHeard := false,
      islandReported := 0 } }

/-- Everything but the station state and the table that a change of kind (a) does (Table 5-6, column (a)). -/
def State.leaveLine (s : State) : State := s.leaveBlocks.dropTiming

/-- What a change's own notice says: kind, station, detail, value. -/
abbrev OwnNotice := NoticeKind × Nat × Byte × BitVec 16

/-- The notice of its own that a change has, if any; STATION_STATE follows it (R90). -/
def State.postOwn (s : State) (notice : Option OwnNotice) : State :=
  match notice with
  | none => s
  | some (kind, station, detail, value) => s.post kind station detail value

/-- The station state, the notices and the table of a change of kind (a), the other blocks having been left. The change's own notice comes
first, then STATION_STATE (R90); the discarded own entry's OFFER_RESULT follows (R23; the order of the last two is the model's, log entry 5). -/
def State.turnSilent (s : State) (previous next : StationState) (isolation : Option IsolationCause) (notice : Option OwnNotice) : State :=
  let t := { s with life := { s.life with state := next, isolation := isolation } }
  ((t.postOwn notice).postStationState previous).discardTable

/-- A change of kind (a) (R106): from a transmitting state to a silent one, with the isolation cause it leaves. The timing is dropped before
the notices are posted, so all of them carry cycle count 0, where R161 gives the count at the moment of posting and no rule puts the two in
order (DESIGN CHOICE, log entry 5). -/
def State.goSilent (s : State) (next : StationState) (isolation : Option IsolationCause) (notice : Option OwnNotice) : State :=
  s.leaveLine.turnSilent s.life.state next isolation notice

/-- A change of kind (a) made at a cycle boundary (R96): its notices carry the count of the new cycle (R161), and then the timing is dropped. -/
def State.goSilentAtBoundary (s : State) (next : StationState) : State :=
  (s.leaveBlocks.turnSilent s.life.state next s.life.isolation none).dropTiming

/-- Everything but the station state, the timing and the table that a change of kind (b) does (Table 5-6, column (b)). -/
def State.leaveMembership (s : State) : State :=
  let t := s.clearReference.emptyRoster.closeClaims.unannounceClaims.idleFollower
  { t with life := LifeCycle.clearEvidence { t.life with
      listenTimer := none, quiet := 0, joiningSince := none, admitting := none, joinHeard := false, islandReported := 0 } }

/-- A change of kind (b) (R106): from MEMBER to JOINING. An assembled frame is left to be sent whole (R126), one whose transmit offset has not
come too: after a lost merge it goes out 8 us after the own-slot start of the timing it was assembled under (DEDUCED, log entry 13). -/
def State.rejoin (s : State) (notice : Option OwnNotice) : State :=
  let t := s.leaveMembership
  let t := { t with life := { t.life with state := .joining } }
  ((t.postOwn notice).postStationState s.life.state).discardTable

/-- The change from MEMBER to LEAVING (R105, Table 5-6, column (c)). -/
def State.startLeaving (s : State) : State :=
  let t := s.clearReference.closeClaims.idleFollower.dropAdmissions
  let t := { t with life := LifeCycle.clearEvidence { t.life with
      state := .leaving, listenTimer := none, exclusion := 0, joiningSince := none, admitting := none, islandReported := 0,
      leavingFrames := 0 } }
  (t.postStationState s.life.state).leaveOwn

/-- The change from IDLE or ISOLATED to LISTENING (R92, R93). -/
def State.startListening (s : State) : State :=
  let t := { s with
    life := { s.life with state := .listening, isolation := none, listenTimer := some s.listenWindow, mismatchReported := 0 }
    bus := { s.bus with collisions := 0 } }
  State.dropReport (t.postStationState s.life.state)

/-- The change from LISTENING to IDLE, which stops the listen window timer (R101, R104). -/
def State.stopListening (s : State) (notice : Option OwnNotice) : State :=
  let t := { s with life := { s.life with state := .idle, listenTimer := none } }
  ((t.postOwn notice).postStationState s.life.state).dropReport

/-- The slot timer adopts a frame's timing and cycle count (R132). -/
def State.adoptTiming (s : State) (f : Frame) (endTime bytes : Nat) : State :=
  { s with slots := { s.slots with
      timing := some (adoptedTiming s.own f.station (slotStartOf s.cfg.rateCode endTime bytes)), cycle := f.cycle,
      atBoundary := false } }

/-- The change from LISTENING to JOINING on a MEMBER frame (R94). A report held from LISTENING is dropped (R136; DEDUCED, log entry 16). -/
def State.startJoining (s : State) (f : Frame) (endTime bytes : Nat) : State :=
  let t := s.adoptTiming f endTime bytes
  let t := { t with life := { t.life with
    state := .joining, listenTimer := none, quiet := 0, joiningSince := none, admitting := none, joinHeard := false } }
  State.dropReport (t.clearReference.postStationState s.life.state)

/-- The founding of a line at the expiry of the listen window, but for the own-slot start that follows at once (R95). -/
def State.foundLine (s : State) : State :=
  let t := s.clearReference
  let t := { t with
    life := LifeCycle.clearEvidence { t.life with
      state := .member, listenTimer := none, exclusion := 0, islandReported := 0, joiningSince := none, admitting := none }
    slots := { t.slots with timing := some (foundedTiming s.own s.slots.now), cycle := 0, atBoundary := false }
    reference := { t.reference with lastPublished := .stopped }
    roster := Roster.reset }
  State.dropReport (t.postStationState s.life.state)

/-! ## The island rule (R99, R100) -/

/-- Does the first set win over the second (R100)? More stations win; with equal sizes, the set that holds the lowest of the
stations in one and not in the other. -/
def setWins (a b : StationSet) : Bool :=
  if setSize a = setSize b then
    match allStations.find? fun k => contains a k != contains b k with
    | none => true
    | some k => contains a k
  else decide (setSize b < setSize a)

/-- The line runs on at least one side (R99): FOREIGN_ISLAND is raised, and its notice posted once per sender. The claim unit's STOP_CLAIM or
CAUSE_ALSO precedes the life-cycle controller's FOREIGN_ISLAND, where R163 allows either order (DESIGN CHOICE, log entry 5). -/
def State.foreignIsland (s : State) (f : Frame) : State :=
  let t := s.raise .foreignIsland
  if contains t.life.islandReported f.station then t
  else
    let t := t.post .foreignIsland (stationNumber f.station) f.reference.ramp.code f.members
    { t with life := { t.life with islandReported := setInsert t.life.islandReported f.station } }

/-! ## Reset (R88, R149, R159) -/

/-- The local port at its reset values (R149): a transaction in progress is lost, and stays so until its rise of CS_N. -/
def LocalPort.resetBy (p : LocalPort) : LocalPort := { LocalPort.reset with lost := p.lost || p.transaction.isSome }

/-- A reset begins: every block at its reset values, UNCONFIGURED, with this restart cause. A transaction in progress, and one lost
to an earlier reset that still runs, is lost (R149); the commands that wait are outside the station. -/
def State.enterReset (s : State) (cause : RestartCause) : State :=
  { State.reset with
    life := LifeCycle.reset cause
    port := s.port.resetBy
    pending := s.pending }

/-- A reset completes (R88, R160, R167): the straps are read, the port is at its reset values, a RESTART's processing and a transaction that
began before this instant over with it (R149, R159), and the queue holds the RESTARTED notice. -/
def State.completeReset (s : State) (straps : BitVec 4) : State :=
  let t := { s with
    inReset := false
    store := { s.store with number := straps.toFin }
    port := s.port.resetBy
    notices := NoticeUnit.reset }
  t.post .restarted (stationNumber t.own) s.life.restartCause.code 0

end Sys2Proof.Machine
end

