-- ==== Sys2Proof/Machine/Receive.lean ====
section
/-! DEFINITION. Handing on a valid frame (6.5): by the receiver's station state, to the life-cycle controller, to the owners of a JOINING
station, or to the roster, which decides what the other owners see. -/

namespace Sys2Proof.Machine
open Sys2Proof


/-! ## A JOINING receiver (R119) -/

/-- Is the frame a member frame for this station: MEMBER, the own digest, the own count (R96)? -/
def State.isMemberFrame (s : State) (f : Frame) : Bool :=
  f.state == .member && f.digest == s.digest && f.cycle == s.slots.cycle

/-- A member frame at a JOINING station: the observed view is refreshed by the first of the cycle (R20), the admitting set is taken
from the first that contains the own number (R96), and the agreement unit records (R40 to R43). -/
def State.takeMemberFrame (s : State) (f : Frame) : State :=
  let view := if s.life.joinHeard then s.reference else
    { s.reference with view := viewOf f.reference, viewCycle := s.slots.cycle }
  let admitting :=
    if s.life.admitting.isNone ∧ contains f.members s.own then some f.members else s.life.admitting
  State.takeProposalParts
    { s with reference := view, life := { s.life with joinHeard := true, admitting := admitting } } f

/-! ## A LISTENING receiver (R93) -/

/-- The window timer restarts at 32 slot lengths (R93). -/
def State.restartWindow (s : State) : State := { s with life := { s.life with listenTimer := some s.listenWindow } }

/-- CONFIG_MISMATCH for a sender not yet in the mismatch-reported set (R93). -/
def State.reportMismatch (s : State) (f : Frame) : State :=
  if contains s.life.mismatchReported f.station then s
  else
    let t := s.post .configMismatch (stationNumber f.station) 0 f.digest
    { t with life := { t.life with mismatchReported := setInsert t.life.mismatchReported f.station } }

/-- A frame of another number heard while LISTENING (Table 5-3). -/
def State.takeListening (s : State) (f : Frame) (endTime bytes : Nat) : State :=
  if f.state = .member then
    if f.digest = s.digest then (s.startJoining f endTime bytes).takeMemberFrame f
    else (s.reportMismatch f).restartWindow
  else if f.digest = s.digest then s.restartWindow else s

/-! ## The own number heard (R101) -/

/-- DUPLICATE_STATION: the own number, the state entered, the cycle count the frame carried (R101). -/
def State.duplicateNotice (s : State) (f : Frame) (entered : StationState) : OwnNotice :=
  (.duplicateStation, stationNumber s.own, entered.code, f.cycle)

/-- A valid frame that bears the own number (Table 5-4). -/
def State.takeOwnNumber (s : State) (f : Frame) : State :=
  match s.life.state with
  | .listening => s.stopListening (some (s.duplicateNotice f .idle))
  | .joining => s.goSilent .idle s.life.isolation (some (s.duplicateNotice f .idle))
  | .leaving => s.goSilent .idle s.life.isolation (some (s.duplicateNotice f .idle))
  | .member => s.goSilent .isolated (some .duplicate) (some (s.duplicateNotice f .isolated))
  | .unconfigured => s
  | .idle => s
  | .isolated => s

/-! ## A MEMBER or LEAVING receiver (R118) -/

/-- The parts of a member's frame taken by the owners of a MEMBER receiver, in the order given (R118; see `PartOrder`). The stop part comes before
the reference part on every frame: R118 asks for that where the stop part calls for a late stop, and leaves the two in any order where it calls for
none (DESIGN CHOICE, log entry 11: it fixes the order of the member's STOP_CLAIM and an own DIVERGENCE on one frame). -/
def State.takeParts (s : State) (f : Frame) (order : PartOrder) : State :=
  let agree (place : Fin 4) (t : State) : State := if order.agreementPlace = place then t.takeAgreementPart f else t
  let reference (t : State) : State := t.takeReferencePart f
  let hold (t : State) : State := t.takeHoldPart f
  let stopTaken := agree 1 ((agree 0 s).takeStopPart f)
  if order.referenceFirst then agree 3 (hold (agree 2 (reference stopTaken)))
  else agree 3 (reference (agree 2 (hold stopTaken)))

/-- The exclusion evidence of a member's frame (R98). -/
def State.takeEvidence (s : State) (f : Frame) : State :=
  { s with life := { s.life with
      memberHeard := true, ownSeen := s.life.ownSeen || contains f.members s.own,
      firstSet := some (s.life.firstSet.getD f.members) } }

/-- A LEAVING frame from a member schedules its departure two cycles on, if none is scheduled (R79). -/
def State.scheduleLeave (s : State) (f : Frame) : State :=
  let e := s.roster.entries[f.station]
  if f.state = .leaving then s.setEntry f.station { e with leaveDue := some (e.leaveDue.getD (lead s.slots.cycle)) } else s

/-- The cycle-mismatch flag of an entry. -/
def State.setCycleMismatch (s : State) (k : Station) (flag : Bool) : State :=
  s.setEntry k { s.roster.entries[k] with cycleMismatch := flag }

/-- A valid frame from a station in the member set (R72). A frame that is not heard leaves the entry's last heard and digest (R73, R74; DEDUCED,
log entry 14). -/
def State.takeFromMember (s : State) (f : Frame) (endTime bytes : Nat) (order : PartOrder) : State :=
  let k := f.station
  if f.cycle ≠ s.slots.cycle then
    if s.roster.entries[k].cycleMismatch then s
    else (s.setCycleMismatch k true).post .cycleMismatch (stationNumber k) 0 f.cycle
  else if f.digest ≠ s.digest then s
  else
    let t := (s.realign k endTime bytes).hear f true
    if f.state = .joining then t.takeMemberJoining f
    else
      let t := (t.setCycleMismatch k false).scheduleLeave f
      if t.life.state = .member then (t.takeEvidence f).takeParts f order else t.takeAgreementPart f

/-- An entry that becomes MISMATCH or FOREIGN drops any admission due and joining claims (R75). -/
def State.setOutside (s : State) (k : Station) (state : EntryState) : State :=
  s.setEntry k { s.roster.entries[k] with state := state, admissionDue := none, joiningClaims := none }

/-- The island rule on a foreign MEMBER or LEAVING frame (R99, R100). At a lost merge the winner's count is adopted before the change's notices
are posted, so that they carry it (R161; DESIGN CHOICE, log entry 5). -/
def State.islandRule (s : State) (f : Frame) (endTime bytes : Nat) : State :=
  if s.reference.record.ramp.running ∨ f.reference.ramp.running then s.foreignIsland f
  else if f.state = .member ∧ ¬ setWins s.memberSet f.members then
    ((s.adoptTiming f endTime bytes).rejoin none).takeMemberFrame f
  else s

/-- Was a frame of station k, which does not re-align the timer, accepted in the slot of k (R120)? -/
def State.inSlotOf (s : State) (k : Station) : Bool := s.slots.timing.any (·.currentSlot == k)

/-- A valid frame from a station not in the member set, at a MEMBER receiver (R75). -/
def State.takeFromOutside (s : State) (f : Frame) (endTime bytes : Nat) : State :=
  let k := f.station
  if f.digest ≠ s.digest then
    let t := s.hear f (s.inSlotOf k)
    if s.roster.entries[k].state = .mismatch then t
    else (t.setOutside k .mismatch).post .configMismatch (stationNumber k) 0 f.digest
  else if f.state = .joining then
    if f.cycle = s.slots.cycle then ((s.realign k endTime bytes).hear f true).takeCandidate f else s
  else
    let t := s.hear f (s.inSlotOf k)
    let t := if s.roster.entries[k].state = .foreign then t else t.setOutside k .foreign
    t.islandRule f endTime bytes

/-! ## Handing on (R117) -/

/-- A valid frame handed to its owners by the receiver's station state (Table 6-6; none at an ISOLATED one, R103). -/
def State.handOn (s : State) (f : Frame) (endTime bytes : Nat) (order : PartOrder) : State :=
  if f.station = s.own then s.takeOwnNumber f
  else match s.life.state with
    | .unconfigured => s
    | .idle => s
    | .isolated => s
    | .listening => s.takeListening f endTime bytes
    | .joining =>
      if s.isMemberFrame f then (s.realign f.station endTime bytes).takeMemberFrame f else s
    | .member =>
      if s.isMember f.station then s.takeFromMember f endTime bytes order else s.takeFromOutside f endTime bytes
    | .leaving => if s.isMember f.station then s.takeFromMember f endTime bytes order else s

end Sys2Proof.Machine
end

