-- ==== Sys2Proof/Machine/BusPort.lean ====
section
/-! DEFINITION. The bus port (Chapter 7): characters and frames in receipt, the own transmission, collisions. -/

namespace Sys2Proof.Machine
open Sys2Proof

/-! ## Receiving (7.5) -/

/-- The bus port with another frame in receipt. -/
def State.setReceipt (s : State) (r : Option Receipt) : State := { s with bus := { s.bus with receipt := r } }

/-- Does the bus port receive: configured, so that a bit rate is set, and not sending (Table 7-1, R123)? -/
def State.receives (s : State) : Bool := s.life.state != .unconfigured && s.bus.transmit == .idle

/-- A frame in receipt with one more character of mark 0 (R128). At the expected length the end time is recorded and the CRC
checked, a difference abandoning the frame (R127, R129; DEDUCED, log entry 12); a character within the watch abandons it and is discarded
(R129). -/
def Receipt.add (r : Receipt) (data : Byte) (now : Nat) : Option Receipt :=
  let bytes := r.bytes ++ [data]
  if r.endTime.isSome then none
  else if expectedLength bytes = some bytes.length then
    if crcAgrees bytes then some { bytes := bytes, endTime := some now } else none
  else some { bytes := bytes, endTime := none }

/-- A character received (R128): mark 1 begins a frame wherever it is found, mark 0 is added to the frame in receipt or, with none,
discarded (R122). -/
def State.takeCharacter (s : State) (data : Byte) (mark : Bool) : State :=
  if s.receives then
    if mark then s.setReceipt (some { bytes := [data], endTime := none })
    else s.setReceipt (s.bus.receipt.bind fun r => r.add data s.slots.now)
  else s

/-- Does this reason of Table 7-4 apply to the frame in receipt? A header mid-frame arrives before the expected length, a length failure
within the watch, and a CRC difference is one (DEDUCED, log entry 12). -/
def abandonApplies (why : AbandonReason) (r : Receipt) : Bool :=
  match why with
  | .headerMidFrame => r.endTime.isNone
  | .framingError => true
  | .crcDifference => !crcAgrees r.bytes
  | .lengthFailure => r.endTime.isSome
  | .ownTransmission => true

/-- A frame in receipt abandoned for a reason of Table 7-4: discarded whole (R129). -/
def State.abandon (s : State) (why : AbandonReason) : State := s.setReceipt (s.bus.receipt.filter fun r => !abandonApplies why r)

/-- A gap abandons a frame in receipt that has not reached its expected length (R129). -/
def State.abandonOnGap (s : State) : State := s.setReceipt (s.bus.receipt.filter fun r => r.endTime.isSome)

/-- A frame received whole (R128): it leaves the bus port, and where its content is valid it is accepted and handed on (R115, R116). -/
def State.receiveWhole (s : State) (order : PartOrder) : State :=
  match s.bus.receipt with
  | none => s
  | some r =>
    match r.endTime with
    | none => s
    | some endTime =>
      let t := s.setReceipt none
      if crcAgrees r.bytes then
        match validFrame r.bytes with
        | none => t
        | some f => t.handOn f endTime r.bytes.length order
      else t

/-! ## Sending (7.3) -/

/-- The transmit offset (R123): BDE asserted and the assembled frame's characters begun. A frame in receipt is abandoned. Bits and their times
are not modelled (log entry 19). -/
def State.beginTransmission (s : State) : State :=
  match s.assembled with
  | none => s
  | some a =>
    if s.life.state.transmits ∧ s.bus.transmit = .idle then
      { s with bus := { s.bus with
          transmit := .sending (frameCharacters a.frame), bde := true, btxIdle := false, receipt := none } }
    else s

/-- The bus port sends nothing: BDE inactive, BTX at the idle level (R121). -/
def BusPort.silence (b : BusPort) : BusPort := { b with transmit := .idle, bde := false, btxIdle := true }

/-- The frame sent whole, every echo matching (R123, R125, R108): BDE falls and the collision count returns to 0. -/
def State.endTransmission (s : State) : State :=
  match s.bus.transmit with
  | .idle => s
  | .sending _ => { s with bus := { s.bus.silence with collisions := 0 }, assembled := none }

/-- A collision (R124, R125): BDE falls after the character in collision, the assembled frame is discarded, and the count rises. -/
def State.collide (s : State) : State :=
  match s.bus.transmit with
  | .idle => s
  | .sending _ =>
    { s with bus := { s.bus.silence with collisions := min (s.bus.collisions + 1) Config.collisionLimit }, assembled := none }

/-- The life-cycle controller takes a collision count of 3 (R102): ISOLATED with cause COLLISIONS, BUS_FAULT before STATION_STATE. -/
def State.isolateOnCollisions (s : State) : State :=
  if s.life.state.transmits ∧ s.bus.collisions = Config.collisionLimit then
    s.goSilent .isolated (some .collisions)
      (some (.busFault, 0, IsolationCause.collisions.code, BitVec.ofNat 16 Config.collisionLimit))
  else s

end Sys2Proof.Machine
end

