-- ==== Sys2Proof/Machine/Pins.lean ====
section
/-! DEFINITION. The meaning of the stop input command: STOP_INPUT_RECOGNISED; and the guard that the event commands share. -/

namespace Sys2Proof.Machine
open Sys2Proof

/-- An event at a station that is held in reset has no effect: the reset overtakes every operation (R88; DEDUCED, log entry 9). -/
def outOfReset (event : State → State) (s : State) : Host.Outcome State Fault Refusal :=
  .next (if s.inReset then s else event s)

/-- STOP_INPUT_RECOGNISED (R54, R55). -/
def execStopInputRecognised (input : Fin 4) (high : Bool) (s : State) : Host.Outcome State Fault Refusal :=
  outOfReset (fun t => t.recogniseInput input high) s

end Sys2Proof.Machine
end

