-- ==== Sys2Proof/Machine/BusEvents.lean ====
section
/-! DEFINITION. The meanings of the line bus commands: TRANSMIT_OFFSET, COLLISION, BUS_FAULT, TRANSMIT_END, RECEIVED_WHOLE, GAP,
FRAME_ABANDONED, CHARACTER_RECEIVED. -/

namespace Sys2Proof.Machine
open Sys2Proof

/-- TRANSMIT_OFFSET (R123). -/
def execTransmitOffset (s : State) : Host.Outcome State Fault Refusal := outOfReset State.beginTransmission s

/-- COLLISION (R124, R125). -/
def execCollision (s : State) : Host.Outcome State Fault Refusal := outOfReset State.collide s

/-- BUS_FAULT (R102). -/
def execBusFault (s : State) : Host.Outcome State Fault Refusal := outOfReset State.isolateOnCollisions s

/-- TRANSMIT_END (R123, R125). -/
def execTransmitEnd (s : State) : Host.Outcome State Fault Refusal := outOfReset State.endTransmission s

/-- RECEIVED_WHOLE (R128, R115, R117). -/
def execReceivedWhole (order : PartOrder) (s : State) : Host.Outcome State Fault Refusal :=
  outOfReset (fun t => t.receiveWhole order) s

/-- GAP (R129). -/
def execGap (s : State) : Host.Outcome State Fault Refusal := outOfReset State.abandonOnGap s

/-- FRAME_ABANDONED (R129). -/
def execFrameAbandoned (why : AbandonReason) (s : State) : Host.Outcome State Fault Refusal :=
  outOfReset (fun t => t.abandon why) s

/-- CHARACTER_RECEIVED (R122, R128). -/
def execCharacterReceived (data : Byte) (mark : Bool) (s : State) : Host.Outcome State Fault Refusal :=
  outOfReset (fun t => t.takeCharacter data mark) s

end Sys2Proof.Machine
end

