-- ==== Sys2Proof/Machine/LimitEvents.lean ====
section
/-! DEFINITION. The meanings of the commands by which an owner takes a count at its limit, or a cycle that has come: MISSED_LIMIT,
LEAVING_COMPLETE, WITHDRAWN_ENTRY_REMOVED, LAG_HOLD, LOCAL_SILENT, EXPIRED, GRACE_PERIOD, EXCLUDED, QUIET_COUNT_EXPIRY. Where the count
is not at its limit, or the cycle has not come, the command has no effect (DEDUCED, log entry 8). -/

namespace Sys2Proof.Machine
open Sys2Proof

/-- Does the station's roster count missed slots: MEMBER or LEAVING (R76)? -/
def State.countsMissed (s : State) : Bool := s.life.state == .member || s.life.state == .leaving

/-- The roster takes a missed count at M (R77). -/
def State.missedLimitEvent (k : Station) (s : State) : State :=
  if s.countsMissed && s.missedDue k then s.takeMissedLimit k else s

/-- The second LEAVING frame's slot has closed (R105). The command is that close: it acts at a count of 2 whether or not SLOT_CLOSE of the own
slot has come, and only the idle step waits for it (DESIGN CHOICE, log entry 10). -/
def State.finishLeaving (s : State) : State :=
  if s.life.state = .leaving ∧ s.life.leavingFrames = Config.announcementLimit then s.goSilent .idle s.life.isolation none else s

/-- Has the own entry, WITHDRAWN, been announced twice (R33)? -/
def OwnEntry.withdrawalDone (e : OwnEntry) : Bool :=
  match e.phase with
  | .queued => false
  | .offered _ => false
  | .committed _ _ _ => false
  | .withdrawn _ _ announced => announced == Config.announcementLimit

/-- A withdrawn own entry, announced twice, leaves the table (R33). The command is the close of that own slot, whether or not SLOT_CLOSE has
come, and only the idle step waits for it (DESIGN CHOICE, log entry 10). -/
def State.removeWithdrawn (s : State) : State :=
  if s.agreement.own.any (·.withdrawalDone) then s.setOwnEntry none else s

/-- A lag count at N sets or clears the lag hold (R145). -/
def State.takeLag (s : State) : State := { s with follower := lagTake s.cfg.lagCount.toNat s.follower }

/-- The report-miss count at Nrep raises LOCAL_SILENT (R148). Its notice, and the claim's cause, come after what CYCLE_BOUNDARY posted and raised
at the same publication, an order that no rule gives (DESIGN CHOICE, log entry 5). -/
def State.takeSilent (s : State) : State :=
  if s.port.silentDue then State.raise { s with port := { s.port with silentDue := false } } .localSilent else s

/-- The own OFFERED entry at its deadline is WITHDRAWN with reason EXPIRED (R32). Its OFFER_RESULT stands after every notice of the CYCLE_BOUNDARY
that began the cycle, where R163 leaves the posts of different blocks open (DESIGN CHOICE, log entry 5). -/
def State.expireOffer (s : State) : State :=
  match s.ownExpired with
  | none => s
  | some (e, ballot) =>
    (s.setOwnEntry (some { e with phase := .withdrawn ballot .expired 0 })).postOfferResult .expired e.serial 0 0

/-- The entries of other origins at the end of the grace period go quietly (R43). -/
def State.endGrace (s : State) : State := if s.life.state.transmits then s.removeGraceOver else s

/-- The exclusion count at 2 makes a MEMBER JOINING, EXCLUDED before STATION_STATE, with the first member set of the ended cycle
(R98). -/
def State.exclude (s : State) : State :=
  if s.life.state = .member ∧ s.life.exclusion = Config.exclusionLimit then
    s.rejoin (some (.excluded, 0, 0, s.life.firstSet.getD 0))
  else s

/-- The quiet count at M returns a JOINING station to LISTENING with a new listen window (R96). The change is made at the boundary, so
STATION_STATE carries the count of the new cycle (R161). -/
def State.expireQuiet (s : State) : State :=
  if s.life.state = .joining ∧ s.life.quiet = s.missedLimit then
    let t := s.goSilentAtBoundary .listening
    { t with life := { t.life with listenTimer := some t.listenWindow, mismatchReported := 0 } }
  else s

/-- MISSED_LIMIT (R77). -/
def execMissedLimit (station : Station) (s : State) : Host.Outcome State Fault Refusal :=
  outOfReset (State.missedLimitEvent station) s

/-- LEAVING_COMPLETE (R105). -/
def execLeavingComplete (s : State) : Host.Outcome State Fault Refusal := outOfReset State.finishLeaving s

/-- WITHDRAWN_ENTRY_REMOVED (R33). -/
def execWithdrawnEntryRemoved (s : State) : Host.Outcome State Fault Refusal := outOfReset State.removeWithdrawn s

/-- LAG_HOLD (R145). -/
def execLagHold (s : State) : Host.Outcome State Fault Refusal := outOfReset State.takeLag s

/-- LOCAL_SILENT (R148). -/
def execLocalSilent (s : State) : Host.Outcome State Fault Refusal := outOfReset State.takeSilent s

/-- EXPIRED (R32). -/
def execExpired (s : State) : Host.Outcome State Fault Refusal := outOfReset State.expireOffer s

/-- GRACE_PERIOD (R43). -/
def execGracePeriod (s : State) : Host.Outcome State Fault Refusal := outOfReset State.endGrace s

/-- EXCLUDED (R98). -/
def execExcluded (s : State) : Host.Outcome State Fault Refusal := outOfReset State.exclude s

/-- QUIET_COUNT_EXPIRY (R96). -/
def execQuietCountExpiry (s : State) : Host.Outcome State Fault Refusal := outOfReset State.expireQuiet s

end Sys2Proof.Machine
end

