-- ==== Sys2Proof/Machine/ConfigStore.lean ====
section
/-! DEFINITION. The configuration store (Chapter 11): validation, acceptance, reading. -/

namespace Sys2Proof.Machine
open Sys2Proof

/-- The minimum slot length of a rate code, in microseconds (Table 7-7). -/
def minimumSlot (rateCode : BitVec 8) : Nat := if rateCode = 1 then 937 else if rateCode = 2 then 481 else 253

/-- Does an unsigned field lie in a range? -/
def inRange {w : Nat} (low high : Nat) (x : BitVec w) : Bool := decide (low ≤ x.toNat ∧ x.toNat ≤ high)

/-- Does each field of the record lie in its accepted range, in ascending order of index (Table 11-1)? -/
def fieldsInRange (r : ConfigRecord) : List Bool :=
  [inRange 1 3 r.rateCode, inRange (minimumSlot r.rateCode) Config.maxSlotLength r.slotLength, inRange 1 32767 r.smax,
   inRange 1 4095 r.rampStep, inRange 1 4095 r.stopStep, inRange 2 8 r.missedLimit, inRange 4 32 r.offerDeadline] ++
  [inRange 8192 32767 r.draw, inRange 0 4095 r.kp, inRange 0 255 r.ki, inRange 0 32767 r.imax, inRange 0 32767 r.trimMax,
   inRange 1 32767 r.kf, inRange 1 8388607 r.lagLimit, decide (r.lagRelease.toNat < r.lagLimit.toNat)] ++
  [inRange 1 16 r.lagCount, inRange 1 65535 r.ssMax, inRange 1 8 r.reportTimeout, inRange 0 4 r.sti0, inRange 0 4 r.sti1,
   inRange 0 4 r.sti2, inRange 0 4 r.sti3, inRange 0 7 r.attentionMask]

/-- The index of the first field outside its range (R169). -/
def firstBadField (r : ConfigRecord) : Option Nat := ((fieldsInRange r).findIdx? fun ok => !ok).map (· + 1)

/-- Acceptance (R170): the record and its digest kept, the station IDLE, a report held from UNCONFIGURED discarded at the entry (R136), the
stop inputs already active raised (R56), and ATTN_N re-examined under the new mask (R166). -/
def State.acceptRecord (s : State) (r : ConfigRecord) : State :=
  let t := { s with
    store := { s.store with accepted := some { record := r, digest := crc (linePartBytes r) } }
    life := { s.life with state := .idle } }
  (t.postStationState s.life.state).dropReport.raiseActiveInputs.examineAttention

/-- CONFIGURE (R91, R169). -/
def State.configure (s : State) (r : ConfigRecord) : State × Result × List Byte :=
  if s.life.state = .unconfigured then
    match firstBadField r with
    | some index => (s, .badConfig, [BitVec.ofNat 8 index])
    | none => (s.acceptRecord r, .ok, [])
  else (s, .wrongState, [])

/-- READ_CONFIG (R172): the station number, the digest and the record, or WRONG_STATE in UNCONFIGURED. -/
def State.readConfig (s : State) : Result × List Byte :=
  if s.life.state = .unconfigured then (.wrongState, [])
  else (.ok, [numberByte s.own] ++ halfBytes s.digest ++ recordBytes s.cfg)

end Sys2Proof.Machine
end

