-- ==== Sys2Proof/Machine/Port.lean ====
section
/-! DEFINITION. The local port (Chapter 9): envelopes, taking a request, and the bodies it returns. -/

namespace Sys2Proof.Machine
open Sys2Proof

/-! ## Envelopes (R151) -/

/-- An envelope with its check byte. -/
def withCheck (bytes : List Byte) : List Byte := bytes ++ [checkByte bytes]

/-- The envelope that a response buffer state gives (Table 9-2, Table 12-3). -/
def Buffer.envelope : Buffer → List Byte
  | .empty => withCheck [0, 0, 0, 0]
  | .ready r => withCheck ([1, r.kindEcho, r.result.code, BitVec.ofNat 8 r.body.length] ++ r.body)
  | .pending p => withCheck [2, p.kind, 0, 0]

/-- Is a request in processing? -/
def Buffer.isPending : Buffer → Bool
  | .pending _ => true
  | .empty => false
  | .ready _ => false

/-- The transaction that a fall of CS_N begins: the envelope as the buffer stands, and no bit shifted yet (R150, R151, R154). -/
def Buffer.openTransaction (b : Buffer) : Transaction :=
  { envelope := b.envelope, discarded := b.isPending, shiftedIn := [], shiftedOut := 0 }

/-- A fall of CS_N (R151): the envelope is fixed, and a request in processing means that the bytes to come are discarded (R154). In
reset the transaction is lost and shifts out zeros (R149), but for one that falls while a RESTART is in processing, which shifts out
PENDING (R159; DESIGN CHOICE, log entry 4). -/
def State.startTransaction (s : State) : State :=
  if s.inReset ∧ s.port.buffer.isPending = false then { s with port := { s.port with transaction := none, lost := true } }
  else { s with port := { s.port with transaction := some s.port.buffer.openTransaction } }

/-! ## Taking a request (R152 to R155) -/

/-- Does the port take what the transaction that ends now carried? Not in reset or after one (R149), and not where a request was in
processing at the fall of CS_N (R154). -/
def State.takesTransaction (s : State) : Bool :=
  !s.inReset && !s.port.lost && !s.port.buffer.isPending && !s.port.transaction.any (·.discarded)

/-- A rise of CS_N: no transaction is in progress. -/
def State.endTransaction (s : State) : State := { s with port := { s.port with transaction := none, lost := false } }

/-- A rise of CS_N with what the transaction does if the port takes it. -/
def State.transact (s : State) (taken : State → State) : State :=
  if s.takesTransaction then taken s.endTransaction else s.endTransaction

/-- The port with a request of this kind in processing, and what its owner has answered (R153). -/
def State.beginProcessing (s : State) (kind : Byte) (answer : Option (Result × List Byte)) : State :=
  { s with port := { s.port with buffer := .pending { kind := kind, answer := answer, since := s.slots.now } } }

/-- What an owner makes of a request: its own state, the result and the response body. -/
abbrev Owner := State → State × Result × List Byte

/-- A request taken: its owner takes it, and the answer waits for RESPONSE_READY (R153; DEDUCED, log entry 6). -/
def State.takeRequest (s : State) (kind : Byte) (owner : Owner) : State :=
  s.transact fun t =>
    let (u, result, body) := owner t
    u.beginProcessing kind (some (result, body))

/-- A RESTART's processing is over, and the port is reset with the rest: from here a fall of CS_N is lost (R149, R159; DESIGN CHOICE, log
entry 4). -/
def State.endRestart (s : State) : State := if s.port.buffer.isPending then { s with port := s.port.resetBy } else s

/-- The response stored and the buffer READY (R153). A RESTART's response is never made READY (R89). -/
def State.completeProcessing (s : State) : State :=
  match s.port.buffer with
  | .empty => s
  | .ready _ => s
  | .pending p =>
    match p.answer with
    | none => s
    | some (result, body) =>
      { s with port := { s.port with buffer := .ready { kindEcho := p.kind, result := result, body := body } } }

/-- NOP (R155): a READY buffer becomes EMPTY. -/
def State.takeNop (s : State) : State :=
  match s.port.buffer with
  | .empty => s
  | .ready _ => { s with port := { s.port with buffer := .empty } }
  | .pending _ => s

/-! ## Owners' answers (R156) -/

/-- An owner that always answers OK with an empty body. -/
def answerOk (change : State → State) : Owner := fun s => (change s, .ok, [])

/-- An owner that reads, and changes nothing. -/
def answerRead (read : State → Result × List Byte) : Owner := fun s => (s, read s)

/-- JOIN (R92). -/
def State.join (s : State) : State × Result × List Byte :=
  if s.life.state = .idle ∨ s.life.state = .isolated then (s.startListening, .ok, []) else (s, .wrongState, [])

/-- LEAVE (Table 5-5). -/
def State.leave (s : State) : State × Result × List Byte :=
  match s.life.state with
  | .listening => (s.stopListening none, .ok, [])
  | .joining => (s.goSilent .idle s.life.isolation none, .ok, [])
  | .member => if s.reference.record.ramp = .stopped then (s.startLeaving, .ok, []) else (s, .wrongState, [])
  | .unconfigured => (s, .wrongState, [])
  | .idle => (s, .wrongState, [])
  | .leaving => (s, .wrongState, [])
  | .isolated => (s, .wrongState, [])

/-- WITHDRAW_OFFER (R35). -/
def State.withdrawOffer (s : State) : State × Result × List Byte :=
  let (t, result) := s.withdrawOwn
  (t, result, [])

/-- CLEAR_STOP (R52, R68): refused at a MEMBER whose line is not STOPPED. -/
def State.takeClearStop (s : State) : State × Result × List Byte :=
  if s.life.state = .member ∧ s.reference.record.ramp.running then (s, .wrongState, [])
  else
    let (t, stillActive) := s.clearStop
    (t, if stillActive then .stillActive else .ok, [])

/-- The manual hold (R58, R68). -/
def State.setManualHold (hold : Bool) (s : State) : State := { s with claims := { s.claims with manualHold := hold } }

/-- REPORT (R136, R137, R158): the setpoint record as it stands once the report has been taken. Bit 0 of the flags is DRIVE_READY. -/
def State.answerReport (p : Position) (flags : Byte) (s : State) : State × Result × List Byte :=
  let t := s.takeReport p (flags.getLsbD 0)
  (t, .ok, setpointBody t.follower.record)

/-- READ_SETPOINT (R158). -/
def State.readSetpoint (s : State) : Result × List Byte := (.ok, setpointBody s.follower.record)

/-- The READ_STATUS body (R157, Table 12-8). -/
def State.statusBody (s : State) : List Byte :=
  let r := s.shownRecord
  [numberByte s.own, s.life.state.code, codeOr0 IsolationCause.code s.life.isolation, s.life.restartCause.code] ++
    halfBytes s.slots.cycle ++ [r.ramp.code] ++ halfBytes r.s ++ halfBytes r.t ++ wordBytes r.p ++ [r.epoch] ++
    halfBytes r.stoppedSince ++ halfBytes s.memberSet ++
    [codeOr0 StopCause.code (s.claims.stop.map (·.cause)), flagByte s.combinedHold,
     BitVec.ofNat 8 s.notices.queue.length, flagByte s.notices.lost,
     codeOr0 OwnPhase.code (s.agreement.own.map (·.phase))]

/-- READ_STATUS (R157): the body shows the notices-lost flag before the read clears it. -/
def State.answerStatus (s : State) : State × Result × List Byte :=
  ({ s with notices := { s.notices with lost := false } }, .ok, s.statusBody)

/-- The READ_ROSTER body of station k (Table 12-9). -/
def State.rosterBody (s : State) (k : Station) : List Byte :=
  let e := s.rosterEntry k
  [numberByte k, e.state.code, rosterFlags (s.isMember k) e, BitVec.ofNat 8 e.missed] ++ halfBytes e.lastHeard ++
    halfBytes e.digestHeard ++ [codeOr0 RestartCause.code e.restartCause] ++ halfBytes (e.joiningSince.getD 0) ++
    halfBytes (e.admissionDue.getD 0) ++ halfBytes (e.leaveDue.getD 0) ++ [s.cfg.missedLimit]

/-- READ_ROSTER (R86). -/
def State.readRoster (number : Byte) (s : State) : Result × List Byte :=
  match stationOfNumber number with
  | none => (.outOfRange, [])
  | some k => (.ok, s.rosterBody k)

/-- The fields of a proposal entry as READ_PROPOSAL shows them, those that Table 2-1 marks absent as `none`. -/
structure ShownEntry where
  origin : Station
  serial : Byte
  kind : OfferKind
  target : Speed
  phase : Byte
  offered : Option (Cycle × StationSet)
  acks : Option StationSet
  refusal : Option (Station × Reason)
  verdict : Option Verdict
  effective : Option Cycle
  withdrawn : Option WithdrawReason
  announced : Option Nat
  deriving DecidableEq, Repr

/-- The own entry as it is shown (Table 2-1). -/
def OwnEntry.shown (own : Station) (e : OwnEntry) : ShownEntry :=
  let base : ShownEntry :=
    { origin := own, serial := e.serial, kind := e.kind, target := e.target, phase := e.phase.code, offered := none,
      acks := none, refusal := none, verdict := none, effective := none, withdrawn := none, announced := none }
  let onBallot (b : Ballot) : ShownEntry :=
    { base with offered := some (b.firstOffered, b.voters), acks := some b.acks, refusal := b.refusal }
  match e.phase with
  | .queued => base
  | .offered b => onBallot b
  | .committed b effective announced => { onBallot b with effective := some effective, announced := some announced }
  | .withdrawn b why announced => { onBallot b with withdrawn := some why, announced := some announced }

/-- An entry of another origin as it is shown: OFFERED, or COMMITTED with its effective cycle (Table 2-1). -/
def OtherEntry.shown (e : OtherEntry) : ShownEntry :=
  { origin := e.origin, serial := e.serial, kind := e.kind, target := e.target,
    phase := if e.effective.isSome then 3 else 2, offered := some (e.firstOffered, e.voters), acks := none, refusal := none,
    verdict := e.verdict, effective := e.effective, withdrawn := none, announced := none }

/-- The proposal entry of an origin (R48). -/
def State.shownEntry (s : State) (k : Station) : Option ShownEntry :=
  if k = s.own then s.agreement.own.map (·.shown k) else (s.agreement.other? k).map (·.shown)

/-- The READ_PROPOSAL body (Table 12-9). -/
def proposalBody (e : ShownEntry) : List Byte :=
  [numberByte e.origin, e.serial, e.kind.code] ++ halfBytes e.target ++
    [e.phase, presenceFlags e.offered.isSome e.acks.isSome e.refusal.isSome e.verdict.isSome e.effective.isSome
      e.withdrawn.isSome e.announced.isSome] ++
    halfBytes ((e.offered.map (·.1)).getD 0) ++ halfBytes ((e.offered.map (·.2)).getD 0) ++ halfBytes (e.acks.getD 0) ++
    [codeOr0 numberByte (e.refusal.map (·.1)), codeOr0 Reason.code (e.refusal.map (·.2)), codeOr0 Verdict.code e.verdict] ++
    halfBytes (e.effective.getD 0) ++
    [codeOr0 WithdrawReason.code e.withdrawn, BitVec.ofNat 8 (e.announced.getD 0)]

/-- READ_PROPOSAL (R48). -/
def State.readProposal (origin : Byte) (s : State) : Result × List Byte :=
  match stationOfNumber origin with
  | none => (.outOfRange, [])
  | some k =>
    match s.shownEntry k with
    | none => (.empty, [])
    | some e => (.ok, proposalBody e)

/-- READ_NOTICE (R165): the oldest notice of the highest class leaves the queue, and ATTN_N is re-examined (R166). -/
def State.answerNotice (s : State) : State × Result × List Byte :=
  match nextNotice s.notices.queue with
  | none => (s, .empty, [])
  | some n =>
    (State.examineAttention { s with notices := { s.notices with queue := queueRead s.notices.queue } }, .ok, noticeBody n)

/-- RESTART (R89): the reset is carried out within the processing, which makes no response READY. -/
def State.takeRestart (s : State) : State :=
  let t := s.enterReset .request
  t.beginProcessing 0x7F none

end Sys2Proof.Machine
end

