-- ==== Sys2Proof/Machine/Requests.lean ====
section
/-! DEFINITION. The meanings of the section controller's requests (Table 9-4, codes of Table 12-4), each the rise of CS_N with the
owner's taking of it. -/

namespace Sys2Proof.Machine
open Sys2Proof

/-- CONFIGURE (R169). -/
def execConfigure (record : ConfigRecord) (s : State) : Host.Outcome State Fault Refusal :=
  .next (s.takeRequest 0x01 fun t => t.configure record)

/-- JOIN (R92). -/
def execJoin (s : State) : Host.Outcome State Fault Refusal := .next (s.takeRequest 0x02 State.join)

/-- LEAVE (R104). -/
def execLeave (s : State) : Host.Outcome State Fault Refusal := .next (s.takeRequest 0x03 State.leave)

/-- OFFER_START (R26). -/
def execOfferStart (target : Speed) (s : State) : Host.Outcome State Fault Refusal :=
  .next (s.takeRequest 0x10 fun t => t.takeOffer .start target)

/-- OFFER_RAMP (R26). -/
def execOfferRamp (target : Speed) (s : State) : Host.Outcome State Fault Refusal :=
  .next (s.takeRequest 0x11 fun t => t.takeOffer .rampTo target)

/-- WITHDRAW_OFFER (R35). -/
def execWithdrawOffer (s : State) : Host.Outcome State Fault Refusal := .next (s.takeRequest 0x12 State.withdrawOffer)

/-- RAISE_STOP (R53). -/
def execRaiseStop (s : State) : Host.Outcome State Fault Refusal :=
  .next (s.takeRequest 0x20 (answerOk fun t => t.raise .localRequest))

/-- CLEAR_STOP (R52). -/
def execClearStop (s : State) : Host.Outcome State Fault Refusal := .next (s.takeRequest 0x21 State.takeClearStop)

/-- SET_HOLD (R58). -/
def execSetHold (s : State) : Host.Outcome State Fault Refusal :=
  .next (s.takeRequest 0x22 (answerOk (State.setManualHold true)))

/-- RELEASE_HOLD (R58). -/
def execReleaseHold (s : State) : Host.Outcome State Fault Refusal :=
  .next (s.takeRequest 0x23 (answerOk (State.setManualHold false)))

/-- REPORT (R136, R147, R158). -/
def execReport (position : Position) (flags : Byte) (s : State) : Host.Outcome State Fault Refusal :=
  .next (s.takeRequest 0x30 (State.answerReport position flags))

/-- READ_SETPOINT (R158). -/
def execReadSetpoint (s : State) : Host.Outcome State Fault Refusal := .next (s.takeRequest 0x31 (answerRead State.readSetpoint))

/-- READ_STATUS (R157). -/
def execReadStatus (s : State) : Host.Outcome State Fault Refusal := .next (s.takeRequest 0x40 State.answerStatus)

/-- READ_ROSTER (R86). -/
def execReadRoster (number : Byte) (s : State) : Host.Outcome State Fault Refusal :=
  .next (s.takeRequest 0x41 (answerRead (State.readRoster number)))

/-- READ_PROPOSAL (R48). -/
def execReadProposal (origin : Byte) (s : State) : Host.Outcome State Fault Refusal :=
  .next (s.takeRequest 0x42 (answerRead (State.readProposal origin)))

/-- READ_NOTICE (R165). -/
def execReadNotice (s : State) : Host.Outcome State Fault Refusal := .next (s.takeRequest 0x43 State.answerNotice)

/-- READ_CONFIG (R172). -/
def execReadConfig (s : State) : Host.Outcome State Fault Refusal := .next (s.takeRequest 0x44 (answerRead State.readConfig))

/-- RESTART (R89): the station is reset with cause REQUEST; its response is never made READY. -/
def execRestart (s : State) : Host.Outcome State Fault Refusal := .next (s.transact State.takeRestart)

end Sys2Proof.Machine
end

