-- ==== Sys2Proof/Machine/Resets.lean ====
section
/-! DEFINITION. The meanings of the reset commands: POWER_ON, RESET_N, RESET_COMPLETE. -/

namespace Sys2Proof.Machine
open Sys2Proof

/-- POWER_ON (R88): restart cause POWER. -/
def execPowerOn (s : State) : Host.Outcome State Fault Refusal := .next (s.enterReset .power)

/-- The cause that a low level on RESET_N records (R88): PIN, but POWER while a power-on reset runs (DEDUCED, log entry 9). -/
def pinCause (s : State) : RestartCause := if s.inReset ∧ s.life.restartCause = .power then .power else .pin

/-- RESET_N (R88): the pin goes low; the station stays in reset until RESET_COMPLETE. -/
def execResetN (s : State) : Host.Outcome State Fault Refusal := .next (s.enterReset (pinCause s))

/-- RESET_COMPLETE (R88, R160, R167). Where no reset runs it has no effect (DESIGN CHOICE, log entry 9). -/
def execResetComplete (straps : BitVec 4) (s : State) : Host.Outcome State Fault Refusal :=
  .next (if s.inReset then s.completeReset straps else s)

end Sys2Proof.Machine
end

