-- ==== Sys2Proof/Machine/Boundary.lean ====
section
/-! DEFINITION. The cycle boundary (1.2, R131): the slot timer's new cycle and every block's boundary work; and the own-slot start (R113). -/

namespace Sys2Proof.Machine
open Sys2Proof

/-! ## The boundary -/

/-- The slot timer at the end of slot 16 (R131): the count incremented, the slot reference on slot 1, the roster's heard marks of the
ended cycle emptied, and the divergence mark cleared (R1). -/
def State.beginCycle (s : State) (t : Timing) : State :=
  { s with
    slots := { s.slots with
      timing := some (t.newCycle s.slotLength (contains s.roster.heard 15)), cycle := s.slots.cycle + 1, atBoundary := true }
    roster := { s.roster with heard := 0 }
    reference := { s.reference with divergence := false } }

/-- RUN_PERMIT from the published ramp state (R67). -/
def State.drivePermit (s : State) : State :=
  { s with claims := { s.claims with runPermit := s.reference.record.ramp.running } }

/-- The four steps of R4 at the new cycle, with the commits' outcomes (R4, R8 to R13). -/
def State.bringRecordForward (s : State) : State × List (DueCommit × Bool) :=
  let new := s.slots.cycle
  let (record, outcomes) := bringForward s.cfg.rampStep s.cfg.stopStep new s.claims.stopEffective s.claims.holdSet
    (s.dueCommits new) s.reference.record
  ({ s with reference := { s.reference with record := record } }, outcomes)

/-- The reference unit's boundary and the work on its publication (R4, R14): the four steps, the RAMP_STATE notice, RUN_PERMIT, the
follower, the processed commits, and then the roster's departures and admissions in ascending order of number (DESIGN CHOICE, log entry 17). -/
def State.publish (s : State) : State :=
  let new := s.slots.cycle
  let (t, outcomes) := s.bringRecordForward
  let t := t.postRampState.drivePermit
  let t := t.followPublication (publishedCommit outcomes == some .start)
  let t := t.processCommits new outcomes
  allStations.foldl State.rosterPublication t

/-- Is the ending cycle excluding (R98)? -/
def LifeCycle.excluding (l : LifeCycle) : Bool := l.memberHeard && !l.ownSeen

/-- The exclusion count at a boundary (R98). Where it reaches 2 the evidence is kept for EXCLUDED, which clears it. -/
def LifeCycle.countExclusion (l : LifeCycle) : LifeCycle :=
  if l.excluding then
    let count := min (l.exclusion + 1) Config.exclusionLimit
    if count = Config.exclusionLimit then { l with exclusion := count }
    else LifeCycle.clearEvidence { l with exclusion := count }
  else LifeCycle.clearEvidence { l with exclusion := 0 }

/-- The island-reported set without the numbers whose entries are no longer FOREIGN (R99). -/
def State.pruneIslands (s : State) : State :=
  { s with life := { s.life with
      islandReported := s.life.islandReported &&& setOf fun k => s.roster.entries[k].state == .foreign } }

/-- The boundary of a MEMBER station (R4, R98). Where the station is excluded at this boundary and the change is taken first, nothing
is published and no commit is applied. -/
def State.memberBoundary (s : State) (exclusionFirst : Bool) : State :=
  let t := { s with life := s.life.countExclusion, claims := claimsBoundary s.slots.cycle s.claims }
  if exclusionFirst ∧ t.life.exclusion = Config.exclusionLimit then t else t.publish.pruneIslands

/-- A JOINING station becomes MEMBER with an admitting set (R97): the set adopted, the record copied from the observed view (R21). STATION_STATE
is posted before the RAMP_STATE and the commit notices of the publication at the same boundary, where R163 allows either order (DESIGN CHOICE,
log entry 5). The close of slot 16 may still be to come (log entry 18). -/
def State.becomeMember (s : State) (set : StationSet) : State :=
  let t := { s with
    life := LifeCycle.clearEvidence { s.life with
      state := .member, exclusion := 0, joiningSince := none, admitting := none, joinHeard := false, islandReported := 0,
      listenTimer := none }
    roster := adoptedRoster s.own set
    reference := { s.reference with record := s.reference.view, view := LineRecord.reset, viewCycle := 0,
                                    lastPublished := .stopped } }
  State.publish (t.postStationState .joining)

/-- The due commits removed quietly at a boundary of a JOINING station that stays JOINING (R44). -/
def State.joiningBoundary (s : State) : State :=
  let quiet := if s.life.joinHeard then 0 else min (s.life.quiet + 1) s.missedLimit
  let t := (s.removeDue s.slots.cycle).dropReport
  { t with life := { t.life with quiet := quiet, joinHeard := false } }

/-- The boundary of a LEAVING station (R4, R44, R79). The agreement unit's OFFER_RESULT of a superseded commit is posted before the roster's
MEMBER_REMOVED, where R163 allows either order (DESIGN CHOICE, log entry 5). -/
def State.leavingBoundary (s : State) : State :=
  allStations.foldl State.rosterDeparture (s.supersedeCommits s.slots.cycle)

/-- The own claims of a transmitting station at a boundary (R51, R60). -/
def State.markOwnClaims (s : State) : State := { s with claims := ownClaimsBoundary s.slots.cycle s.claims }

/-- Every block's boundary work (R131), once the new cycle has begun. -/
def State.boundaryWork (s : State) (exclusionFirst : Bool) : State :=
  match s.life.state with
  | .member => s.memberBoundary exclusionFirst
  | .joining =>
    let t := s.markOwnClaims
    match t.life.admitting with
    | some set => t.becomeMember set
    | none => t.joiningBoundary
  | .leaving => s.markOwnClaims.leavingBoundary
  | .unconfigured => s
  | .idle => s
  | .listening => s
  | .isolated => s

/-! ## The own-slot start (R113) -/

/-- The agreement unit's work (R47), with the parts it hands over. A LEAVING station announces and nothing else (R36). -/
def State.agreementSlot (s : State) : State × Option OfferPart × Option DecisionPart × List ResponsePart :=
  let t := if s.life.state = .member then s.giveVerdicts.dealOwnEntry else s
  let member : Bool := t.life.state == .member
  let offer := if member then t.agreement.own.bind (·.offer) else none
  let decision := t.agreement.own.bind (·.decision)
  let responses := if member then t.agreement.responses else []
  (t.setOwnEntry (t.agreement.own.map (·.announce)), offer, decision, responses)

/-- The claim unit's work: a set claim receives its effective cycle (R51), a hold change is announced (R59). -/
def State.claimsSlot (s : State) : State :=
  let u := { s.claims with stop := announceStop s.slots.cycle s.claims.stop }
  { s with claims := announceHold s.combinedHold s.slots.cycle u }

/-- The life-cycle controller's work: the own joining-since at the first JOINING frame (R94), the LEAVING frames counted (R105). -/
def State.lifeSlot (s : State) : State :=
  match s.life.state with
  | .joining => { s with life := { s.life with joiningSince := some (s.life.joiningSince.getD s.slots.cycle) } }
  | .leaving =>
    { s with life := { s.life with leavingFrames := min (s.life.leavingFrames + 1) Config.announcementLimit } }
  | .unconfigured => s
  | .idle => s
  | .listening => s
  | .member => s
  | .isolated => s

/-- The sender state that a transmitting station's frame carries. -/
def StationState.sender : StationState → SenderState
  | .joining => .joining
  | .leaving => .leaving
  | .member => .member
  | .unconfigured => .member
  | .idle => .member
  | .listening => .member
  | .isolated => .member

/-- The reference fields a frame carries of a record (Table 6-1). -/
def referencePartOf (r : LineRecord) : ReferencePart :=
  { ramp := r.ramp, t := r.t, s := r.s, pLow := r.p.setWidth 16, epoch := r.epoch, stoppedSince := r.stoppedSince }

/-- The own status frame from the owners' state, their slot-start work done (R109, R110, R111). -/
def State.ownFrame (s : State) (offer : Option OfferPart) (decision : Option DecisionPart) (responses : List ResponsePart) : Frame :=
  let joining : Bool := s.life.state == .joining
  { station := s.own
    cycle := s.slots.cycle
    state := s.life.state.sender
    digest := s.digest
    reference := referencePartOf s.shownRecord
    members := if joining then 0 else s.memberSet
    stopCause := s.claims.stop.map (·.cause)
    stopEffective := (s.claims.stop.bind (·.effective)).getD 0
    hold := s.claims.announced
    holdEffective := s.claims.announcedEffective.getD s.slots.cycle
    restartCause := if joining then some s.life.restartCause else none
    joiningSince := if joining then s.life.joiningSince.getD 0 else 0
    offer := offer
    decision := decision
    responses := responses }

/-- The work of an own-slot start (R113): each owner on its own state, then the frame assembled. -/
def State.slotStartWork (s : State) : State :=
  let (t, offer, decision, responses) := s.agreementSlot
  let t := t.claimsSlot.lifeSlot
  { t with assembled := some { frame := t.ownFrame offer decision responses, startedAt := t.slots.now } }

end Sys2Proof.Machine
end

