-- ==== Sys2Proof/Machine/SlotEvents.lean ====
section
/-! DEFINITION. The meanings of the slot timer's commands: SLOT_CLOSE, CYCLE_BOUNDARY, OWN_SLOT_START, LISTEN_WINDOW_EXPIRY. -/

namespace Sys2Proof.Machine
open Sys2Proof

/-- The cycle boundary (R131): raised only while timing is present. -/
def State.takeBoundary (s : State) (exclusionFirst : Bool) : State :=
  match s.slots.timing with
  | none => s
  | some t => (s.beginCycle t).boundaryWork exclusionFirst

/-- The own-slot start (R113, R131): once a cycle, while timing is present, in a transmitting state (log entry 10). -/
def State.takeSlotStart (s : State) : State :=
  match s.slots.timing with
  | none => s
  | some t =>
    if s.life.state.transmits ∧ t.ownStartRaised = false then
      State.slotStartWork { s with slots := { s.slots with timing := some (t.ownStarted s.own) } }
    else s

/-- The listen window runs out (R95): the station founds a line, and its own-slot start follows at once. The command is the expiry, whatever
the window timer shows (DESIGN CHOICE, log entry 10). -/
def State.expireWindow (s : State) : State :=
  if s.life.state = .listening then s.foundLine.slotStartWork else s

/-- SLOT_CLOSE (R131, R76). -/
def execSlotClose (slot : Station) (s : State) : Host.Outcome State Fault Refusal := outOfReset (fun t => t.closeSlot slot) s

/-- CYCLE_BOUNDARY (R131). -/
def execCycleBoundary (exclusionFirst : Bool) (s : State) : Host.Outcome State Fault Refusal :=
  outOfReset (fun t => t.takeBoundary exclusionFirst) s

/-- OWN_SLOT_START (R113). -/
def execOwnSlotStart (s : State) : Host.Outcome State Fault Refusal := outOfReset State.takeSlotStart s

/-- LISTEN_WINDOW_EXPIRY (R95). -/
def execListenWindowExpiry (s : State) : Host.Outcome State Fault Refusal := outOfReset State.expireWindow s

end Sys2Proof.Machine
end

