-- ==== Sys2Proof/Machine/Transactions.lean ====
section
/-! DEFINITION. The meanings of the local port's own commands: TRANSACTION_START, SHORT_TRANSACTION, BAD_FORMAT, UNKNOWN_REQUEST,
TRANSACTION_DISCARDED, NOP, RESPONSE_READY. -/

namespace Sys2Proof.Machine
open Sys2Proof

/-- TRANSACTION_START (R151): CS_N falls. -/
def execTransactionStart (s : State) : Host.Outcome State Fault Refusal := .next s.startTransaction

/-- SHORT_TRANSACTION (R152 step 1): ignored, however few whole bytes it had. -/
def execShortTransaction (_wholeBytes : Nat) (s : State) : Host.Outcome State Fault Refusal := .next s.endTransaction

/-- BAD_FORMAT (R152 steps 2 and 4): answered with the kind byte shifted in as kind echo, and no other effect. -/
def execBadFormat (kind : Byte) (s : State) : Host.Outcome State Fault Refusal :=
  .next (s.takeRequest kind (answerRead fun _ => (.badFormat, [])))

/-- UNKNOWN_REQUEST (R152 step 3): answered with the kind byte shifted in as kind echo, and no other effect. -/
def execUnknownRequest (kind : Byte) (s : State) : Host.Outcome State Fault Refusal :=
  .next (s.takeRequest kind (answerRead fun _ => (.unknownRequest, [])))

/-- TRANSACTION_DISCARDED (R154): the bytes are discarded unread. -/
def execTransactionDiscarded (s : State) : Host.Outcome State Fault Refusal := .next s.endTransaction

/-- NOP (R155). -/
def execNop (s : State) : Host.Outcome State Fault Refusal := .next (s.transact State.takeNop)

/-- RESPONSE_READY (R153). In reset only a RESTART is in processing, and its processing ends without a response (R89, R159). -/
def execResponseReady (s : State) : Host.Outcome State Fault Refusal :=
  .next (if s.inReset then s.endRestart else s.completeProcessing)

end Sys2Proof.Machine
end

