-- ==== Sys2Proof/Machine/Dispatch.lean ====
section
/-! DEFINITION. The dispatch: one arm per command, each the direct call of its meaning. -/

namespace Sys2Proof.Machine
open Sys2Proof

def exec (i : Instr) (s : State) : Host.Outcome State Fault Refusal :=
  match i with
  | .powerOn => Sys2Proof.Machine.execPowerOn s
  | .resetN => Sys2Proof.Machine.execResetN s
  | .resetComplete straps => Sys2Proof.Machine.execResetComplete straps s
  | .stopInputRecognised input high => Sys2Proof.Machine.execStopInputRecognised input high s
  | .transactionStart => Sys2Proof.Machine.execTransactionStart s
  | .shortTransaction wholeBytes => Sys2Proof.Machine.execShortTransaction wholeBytes s
  | .badFormat kind => Sys2Proof.Machine.execBadFormat kind s
  | .unknownRequest kind => Sys2Proof.Machine.execUnknownRequest kind s
  | .transactionDiscarded => Sys2Proof.Machine.execTransactionDiscarded s
  | .nop => Sys2Proof.Machine.execNop s
  | .configure record => Sys2Proof.Machine.execConfigure record s
  | .join => Sys2Proof.Machine.execJoin s
  | .leave => Sys2Proof.Machine.execLeave s
  | .offerStart target => Sys2Proof.Machine.execOfferStart target s
  | .offerRamp target => Sys2Proof.Machine.execOfferRamp target s
  | .withdrawOffer => Sys2Proof.Machine.execWithdrawOffer s
  | .raiseStop => Sys2Proof.Machine.execRaiseStop s
  | .clearStop => Sys2Proof.Machine.execClearStop s
  | .setHold => Sys2Proof.Machine.execSetHold s
  | .releaseHold => Sys2Proof.Machine.execReleaseHold s
  | .report position flags => Sys2Proof.Machine.execReport position flags s
  | .readSetpoint => Sys2Proof.Machine.execReadSetpoint s
  | .readStatus => Sys2Proof.Machine.execReadStatus s
  | .readRoster number => Sys2Proof.Machine.execReadRoster number s
  | .readProposal origin => Sys2Proof.Machine.execReadProposal origin s
  | .readNotice => Sys2Proof.Machine.execReadNotice s
  | .readConfig => Sys2Proof.Machine.execReadConfig s
  | .restart => Sys2Proof.Machine.execRestart s
  | .transmitOffset => Sys2Proof.Machine.execTransmitOffset s
  | .collision => Sys2Proof.Machine.execCollision s
  | .busFault => Sys2Proof.Machine.execBusFault s
  | .transmitEnd => Sys2Proof.Machine.execTransmitEnd s
  | .receivedWhole order => Sys2Proof.Machine.execReceivedWhole order s
  | .gap => Sys2Proof.Machine.execGap s
  | .frameAbandoned why => Sys2Proof.Machine.execFrameAbandoned why s
  | .slotClose slot => Sys2Proof.Machine.execSlotClose slot s
  | .missedLimit station => Sys2Proof.Machine.execMissedLimit station s
  | .leavingComplete => Sys2Proof.Machine.execLeavingComplete s
  | .withdrawnEntryRemoved => Sys2Proof.Machine.execWithdrawnEntryRemoved s
  | .cycleBoundary exclusionFirst => Sys2Proof.Machine.execCycleBoundary exclusionFirst s
  | .lagHold => Sys2Proof.Machine.execLagHold s
  | .localSilent => Sys2Proof.Machine.execLocalSilent s
  | .expired => Sys2Proof.Machine.execExpired s
  | .gracePeriod => Sys2Proof.Machine.execGracePeriod s
  | .excluded => Sys2Proof.Machine.execExcluded s
  | .quietCountExpiry => Sys2Proof.Machine.execQuietCountExpiry s
  | .ownSlotStart => Sys2Proof.Machine.execOwnSlotStart s
  | .listenWindowExpiry => Sys2Proof.Machine.execListenWindowExpiry s
  | .responseReady => Sys2Proof.Machine.execResponseReady s
  | .characterReceived data mark => Sys2Proof.Machine.execCharacterReceived data mark s

end Sys2Proof.Machine
end

