-- ==== Sys2Proof/Machine/Tick.lean ====
section
/-! DEFINITION. What the station does of itself while no command waits (DESIGN CHOICE, log entry 7): the event of its own blocks that has
come, or the passing of one microsecond. What comes from outside (pins, SPI transactions, what the pair carries) never arises here. -/

namespace Sys2Proof.Machine
open Sys2Proof

/-- An event, where its condition holds. -/
def dueIf (condition : Bool) (event : Instr) : Option Instr := if condition then some event else none

/-! ## The counts at their limits and the cycles that have come -/

/-- Is the own slot of an earlier own-slot start over: its close raised in this cycle, or a new cycle begun? -/
def State.ownSlotOver (s : State) : Bool :=
  s.slots.timing.any fun t => (t.lateClose.isNone || s.own.val != 15) && (contains t.closesRaised s.own || !t.ownStartRaised)

/-- The first station whose missed count is at M (R77). -/
def State.missedDueStation (s : State) : Option Station := if s.countsMissed then allStations.find? s.missedDue else none

/-- The limit that has been reached, if any. What a publication has left due (LAG_HOLD, LOCAL_SILENT) comes first, so that a
change of state at the same boundary does not drop it (R145, R148; log entry 8). EXPIRED comes before EXCLUDED: an offer at its deadline is posted
EXPIRED, and not DISCARDED by the exclusion, and its notice stands before EXCLUDED (R32, R98 and R163 leave both open: DESIGN CHOICE, log
entry 5). -/
def State.limitDue (s : State) : Option Instr :=
  dueIf (lagDue s.cfg.lagCount.toNat s.follower) .lagHold
  <|> dueIf s.port.silentDue .localSilent
  <|> dueIf (s.life.state.transmits && s.bus.collisions == Config.collisionLimit) .busFault
  <|> dueIf (s.life.state == .listening && s.life.listenTimer == some 0) .listenWindowExpiry
  <|> s.missedDueStation.map .missedLimit
  <|> dueIf (s.life.state == .leaving && s.life.leavingFrames == Config.announcementLimit && s.ownSlotOver) .leavingComplete
  <|> dueIf (s.agreement.own.any (·.withdrawalDone) && s.ownSlotOver) .withdrawnEntryRemoved
  <|> dueIf (s.slots.atBoundary && s.ownExpired.isSome) .expired
  <|> dueIf (s.slots.atBoundary && s.life.state.transmits && s.agreement.others.any s.graceOver) .gracePeriod
  <|> dueIf (s.life.state == .member && s.life.exclusion == Config.exclusionLimit) .excluded
  <|> dueIf (s.life.state == .joining && s.life.quiet == s.missedLimit) .quietCountExpiry

/-! ## The clock -/

/-- Is the own-slot start due at this microsecond (R131)? -/
def State.slotStartDue (s : State) (t : Timing) : Bool :=
  s.life.state.transmits && !t.ownStartRaised && decide (t.slotStart s.slotLength s.own ≤ s.slots.now)

/-- The slots whose close is due at this microsecond and not yet raised (R131), in ascending order. -/
def State.closesDue (s : State) (t : Timing) : List Station :=
  allStations.filter fun j =>
    !contains t.closesRaised j && decide (t.slotStart s.slotLength j + s.slotLength ≤ s.slots.now)

/-- The slot timer's event that is due (R131). A close of slot 16 left by a boundary comes first; of a close and the own-slot start
that follow each other in the cycle, the earlier. -/
def State.slotEventDue (s : State) : Option Instr :=
  match s.slots.timing with
  | none => none
  | some t =>
    if t.lateClose.isSome then some (.slotClose 15)
    else
      match s.closesDue t with
      | j :: _ => if s.slotStartDue t ∧ s.own.val ≤ j.val then some .ownSlotStart else some (.slotClose j)
      | [] =>
        dueIf (s.slotStartDue t) .ownSlotStart
        <|> dueIf (decide (t.cycleEnd s.slotLength ≤ s.slots.now)) (.cycleBoundary false)

/-- The bus port's own event that is due: the transmit offset, or the end of the last character (R123). -/
def State.transmitDue (s : State) : Option Instr :=
  match s.assembled, s.bus.transmit with
  | none, _ => none
  | some a, .idle =>
    dueIf (s.life.state.transmits && decide (a.startedAt + Config.transmitOffset ≤ s.slots.now)) .transmitOffset
  | some a, .sending characters =>
    dueIf (decide (4 * (a.startedAt + Config.transmitOffset) + frameQuarters s.cfg.rateCode characters.length ≤
      4 * s.slots.now)) .transmitEnd

/-- Processing ends at the latest 25 microseconds after it began (R153). -/
def State.responseDue (s : State) : Option Instr :=
  match s.port.buffer with
  | .empty => none
  | .ready _ => none
  | .pending p =>
    dueIf ((s.inReset || p.answer.isSome) && decide (p.since + Config.processingLimit ≤ s.slots.now)) .responseReady

/-- The event of the station's own blocks that has come. In reset there is none but the end of a RESTART's processing (R88, R89). -/
def State.due (s : State) : Option Instr :=
  if s.inReset then s.responseDue else s.limitDue <|> s.responseDue <|> s.transmitDue <|> s.slotEventDue

/-- One microsecond passes: the clock, the current slot with it (R130) and, while LISTENING, the listen window timer (R93). -/
def State.passMicrosecond (s : State) : State :=
  let now := s.slots.now + 1
  { s with
    slots := { s.slots with now := now, timing := s.slots.timing.map fun t => t.passed s.slotLength now, atBoundary := false }
    life := { s.life with listenTimer := s.life.listenTimer.map (· - 1) } }

/-- The step of a station with no command waiting: the event that has come waits as the next command, or a microsecond passes. -/
def State.idleStep (s : State) : State :=
  match s.due with
  | some c => { s with pending := [c] }
  | none => s.passMicrosecond

end Sys2Proof.Machine
end

