-- ==== Sys2Proof/Machine/Shift.lean ====
section
/-! DEFINITION. The local port's shift register (R150): what SCK shifts in and out of the transaction in progress, and the command that the
rise of CS_N then is. The opcode table has no row for an edge of SCK, so the edges are operations beside the commands (DESIGN CHOICE, log
entry 19): whoever drives the model applies them between TRANSACTION_START and the command of the rise. -/

namespace Sys2Proof.Machine
open Sys2Proof

/-- The bits of a byte in the order they are shifted, most significant first (R150). -/
def bitsOfByte (b : Byte) : List Bool := (List.range 8).map b.getMsbD

/-- The bits of a run of bytes in the order they are shifted (R150). -/
def bitsOf (bytes : List Byte) : List Bool := bytes.flatMap bitsOfByte

/-- A byte from its bits, most significant first (R150). -/
def byteOfBits (bits : List Bool) : Byte := bits.foldl (fun b bit => b <<< 1 ||| (BitVec.ofBool bit).setWidth 8) 0

/-- The whole bytes that the bits shifted in make up; the bits of an incomplete last byte are discarded (R150). -/
def bytesOf : List Bool → List Byte
  | a :: b :: c :: d :: e :: f :: g :: h :: rest => byteOfBits [a, b, c, d, e, f, g, h] :: bytesOf rest
  | _ => []

/-- The transaction in progress changed; with CS_N high there is none, and an edge of SCK is ignored (R150). -/
def State.shift (s : State) (change : Transaction → Transaction) : State :=
  { s with port := { s.port with transaction := s.port.transaction.map change } }

/-- A rising edge of SCK: SDI is sampled (R150). -/
def State.sckRise (s : State) (sdi : Bool) : State := s.shift fun x => { x with shiftedIn := x.shiftedIn ++ [sdi] }

/-- A falling edge of SCK: SDO goes on to the next bit (R150). -/
def State.sckFall (s : State) : State := s.shift fun x => { x with shiftedOut := x.shiftedOut + 1 }

/-- One period of SCK, which rests low (R150). -/
def State.sckPeriod (s : State) (sdi : Bool) : State := (s.sckRise sdi).sckFall

/-- The level on SDO, `none` where it is not driven (R150): the envelope's bits in order from the fall of CS_N on, zeros after its end,
and zeros in a transaction lost to a reset (R149). -/
def State.sdo (s : State) : Option Bool :=
  if s.port.lost then some false else s.port.transaction.map fun x => (bitsOf x.envelope).getD x.shiftedOut false

/-- The command that the rise of CS_N is, by what has been shifted in (R152, R154). The bytes of a transaction that is lost or discarded are
not read. -/
def State.riseCommand (s : State) : Instr :=
  match s.port.transaction with
  | none => .transactionDiscarded
  | some x => if s.port.lost || x.discarded then .transactionDiscarded else transactionCommand (bytesOf x.shiftedIn)

end Sys2Proof.Machine
end

