-- ==== Sys2Proof/Safety.lean ====
section
/-! DEFINITION. What counts as a sound state of the ALV-416, in the terms the statements use: invariants of its blocks, and the shapes of the
changes that several commands share. -/

namespace Sys2Proof.Machine
open Sys2Proof

/-! ## Invariants -/

/-- The notice queue holds at most 24 notices (R160), and ATTN_N is asserted exactly while one is of an enabled class (R166). -/
def NoticesOk (s : State) : Prop :=
  s.notices.queue.length ≤ Config.noticeCapacity ∧ s.notices.attention = attentionOf s.attentionMask s.notices.queue

/-- Timing is present exactly in the transmitting states, and the cycle count is 0 without it (R130). -/
def TimingOk (s : State) : Prop :=
  s.slots.timing.isSome = s.life.state.transmits ∧ (s.slots.timing = none → s.slots.cycle = 0)

/-- RUN_PERMIT is asserted exactly while a MEMBER's last published ramp state is not STOPPED (R67). -/
def PermitOk (s : State) : Prop :=
  s.claims.runPermit = (s.life.state == .member && s.reference.lastPublished.running)

/-- Outside MEMBER the record holds the values of R2, and outside JOINING the observed view is discarded (R2, R20). -/
def ReferenceOk (s : State) : Prop :=
  (s.life.state ≠ .member → s.reference.record = LineRecord.reset) ∧
    (s.life.state ≠ .joining → s.reference.view = LineRecord.reset)

/-- How many open entries of the proposal table carry this station's acknowledgement (R25). -/
def openAcknowledged (s : State) : Nat :=
  (if s.agreement.own.any (·.isOpen) then 1 else 0) + s.agreement.others.countP fun e => e.verdict == some .ack

/-- The proposal table: keyed by origin, the own number apart (R22); empty in the silent states, without an own entry while JOINING
(R23); and no two open entries carry this station's acknowledgement (R25). -/
structure AgreementOk (s : State) : Prop where
  keyed : (s.agreement.others.map (·.origin)).Nodup
  apart : ∀ e ∈ s.agreement.others, e.origin ≠ s.own
  silent : s.life.state.transmits = false → s.agreement.own = none ∧ s.agreement.others = []
  joining : s.life.state = .joining → s.agreement.own = none
  reset : s.inReset = true → s.life.state = .unconfigured
  single : openAcknowledged s ≤ 1

/-- The bus port: BDE is asserted exactly while a frame is being sent, BTX rests at 1 otherwise, only a transmitting state sends or holds
an assembled frame, and the collision count is 0..3 (R121). -/
structure BusOk (s : State) : Prop where
  driver : s.bus.bde = (s.bus.transmit != .idle)
  level : s.bus.btxIdle = !s.bus.bde
  sending : s.bus.bde = true → s.assembled.isSome = true
  assembled : s.assembled.isSome = true → s.life.state.transmits = true
  collisions : s.bus.collisions ≤ Config.collisionLimit

/-- Outside MEMBER the claim view is empty (R61) and the follower is idle but for a held report (R135, R136); outside MEMBER and LEAVING
every roster entry of another number holds its reset values (R70). -/
structure OutsideOk (s : State) : Prop where
  view : s.life.state ≠ .member → s.claims.view = Vector.replicate 16 none
  follower : s.life.state ≠ .member → s.follower = { Follower.idle s.follower.record.cycle with held := s.follower.held }
  roster : s.life.state ≠ .member → s.life.state ≠ .leaving → s.roster = Roster.reset

/-- What makes every own frame pass the content checks of Table 6-5: the offer's voters hold the own number, a pending hold is one or two
cycles ahead, and the frame assembled is valid. -/
structure FrameOk (s : State) : Prop where
  table : AgreementOk s
  voters : ∀ e b, s.agreement.own = some e → e.phase = .offered b → contains b.voters s.own = true
  hold : ∀ e, s.claims.announcedEffective = some e → s.life.state.transmits = true ∧ ahead e s.slots.cycle = true
  assembled : ∀ a, s.assembled = some a → contentValid a.frame = true

/-! ## Shapes of changes -/

/-- The state once a request has been taken and answered: the response waits in the buffer, PENDING (R153). That the owner's taking is part of
the request's command is the model's reading (DEDUCED, log entry 6). -/
def State.answered (s : State) (kind : Byte) (result : Result) (body : List Byte) : State :=
  { s with port := { s.port with
      buffer := .pending { kind := kind, answer := some (result, body), since := s.slots.now }, transaction := none, lost := false } }

/-- The state with no transaction in progress. -/
def State.deselected (s : State) : State := { s with port := { s.port with transaction := none, lost := false } }

/-- Does any stop claim count for the START check (R66): the own one set, or one that the claim view holds? -/
def StopClaimed (u : ClaimUnit) : Prop :=
  u.stop.isSome = true ∨ ∃ (k : Station) (r : ClaimRecord), u.view[k] = some r ∧ r.stop.isSome = true

/-- The conflict check fails (R25): another open entry carries this station's acknowledgement. -/
def Conflicts (s : State) (checked : Station) : Prop :=
  (checked ≠ s.own ∧ ∃ e, s.agreement.own = some e ∧ e.isOpen = true) ∨
    ∃ e ∈ s.agreement.others, e.origin ≠ checked ∧ e.verdict = some .ack

/-- The own claims with their announcement reset (R107). -/
def ClaimUnit.unannounced (u : ClaimUnit) : ClaimUnit :=
  { u with stop := u.stop.map fun k => { k with effective := none, inForce := false }, announced := false,
           announcedEffective := none, currentHold := false }

/-! ### Frames -/

/-- A frame of another number stands in the bus port, received whole and valid (R115, R128), and the station is not in reset. -/
structure WholeFrame (s : State) (r : Receipt) (endTime : Nat) (f : Frame) : Prop where
  running : s.inReset = false
  receipt : s.bus.receipt = some r
  ended : r.endTime = some endTime
  crc : crcAgrees r.bytes = true
  valid : validFrame r.bytes = some f
  other : f.station ≠ s.own

/-- The state with no frame in receipt, the frame received whole having left the bus port (R128). -/
def State.frameTaken (s : State) : State := { s with bus := { s.bus with receipt := none } }

/-- The state in which station k has been heard (R69, R76): its entry as the frame leaves it, and, where the frame was accepted in the
sender's own slot, that slot's mark. -/
def State.heardAs (s : State) (k : Station) (entry : RosterEntry) (inItsSlot : Bool) : State :=
  { s with roster :=
      { entries := s.roster.entries.set k entry
        heard := if inItsSlot then setInsert s.roster.heard k else s.roster.heard } }

/-- The claim view record that an admission makes from the joining claims (R61): the stop claim as first heard, and the hold by its pair. -/
def claimsAtAdmission (e : RosterEntry) (c : Cycle) : ClaimRecord :=
  match e.joiningClaims with
  | none => { stop := none, hold := false, pendingHold := none }
  | some j =>
    let stop := j.stop.map fun x => { cause := x.1, effective := x.2, inForce := !ahead x.2 c : HeardStop }
    if ahead j.holdEffective c then { stop := stop, hold := !j.hold, pendingHold := some (j.hold, j.holdEffective) }
    else { stop := stop, hold := j.hold, pendingHold := none }

/-! ### Notices posted in a row -/

/-- The notice unit after these posts, in this order, at the state's own cycle count (R161, R163). -/
def State.noticesAfter (s : State) (posts : List OwnNotice) : NoticeUnit :=
  (posts.foldl (fun t n => t.post n.1 n.2.1 n.2.2.1 n.2.2.2) s).notices

/-- The state under another cycle count, for the notices that a change posts after it has changed the count. -/
def State.atCycle (s : State) (c : Cycle) : State := { s with slots := { s.slots with cycle := c } }

/-- STATION_STATE (R90). -/
def stationStateNotice (new previous : StationState) : OwnNotice := (.stationState, 0, new.code, previous.code.setWidth 16)

/-- OFFER_RESULT (R37): the serial in the value's high byte, the reason in its low byte. -/
def offerResultNotice (outcome : OfferOutcome) (serial : Byte) (station : Nat) (reason : Byte) : OwnNotice :=
  (.offerResult, station, outcome.code, serial ++ reason)

/-- The notice of an own entry that an exit discards: one for a QUEUED, OFFERED or COMMITTED entry, none for a WITHDRAWN one (R23). -/
def discardNotices (own : Option OwnEntry) : List OwnNotice :=
  match own with
  | none => []
  | some e =>
    match e.phase with
    | .queued => [offerResultNotice .discarded e.serial 0 0]
    | .offered _ => [offerResultNotice .discarded e.serial 0 0]
    | .committed _ _ _ => [offerResultNotice .discarded e.serial 0 0]
    | .withdrawn _ _ _ => []

/-- The own entry that LEAVE leaves, and its notice (R36). -/
def leavingEntry (own : Option OwnEntry) : Option OwnEntry × List OwnNotice :=
  match own with
  | none => (none, [])
  | some e =>
    match e.phase with
    | .queued => (none, [offerResultNotice .originLeaving e.serial 0 0])
    | .offered b => (some { e with phase := .withdrawn b .originLeaving 0 }, [offerResultNotice .originLeaving e.serial 0 0])
    | .committed _ _ _ => (some e, [])
    | .withdrawn _ _ _ => (some e, [])

/-- What the removal of station k leaves of the own entry (R45): an OFFERED one loses the station's acknowledgement and its recorded refusal and
keeps its voter set, and any other is as it was. -/
structure VerdictDropped (k : Station) (own left : Option OwnEntry) : Prop where
  offered : ∀ e b, own = some e → e.phase = .offered b → ∃ b', left = some { e with phase := .offered b' } ∧
    b'.firstOffered = b.firstOffered ∧ b'.voters = b.voters ∧ (∀ j : Station, contains b'.acks j = (contains b.acks j && decide (j ≠ k))) ∧
    b'.refusal = b.refusal.filter (fun x => decide (x.1 ≠ k))
  other : (∀ e b, own = some e → e.phase ≠ .offered b) → left = own

/-! ### Changes of station state (Table 5-6) -/

/-- The reference unit as every exit to a silent state, to JOINING or to LEAVING leaves it: the record at the values of R2, and no
observed view (R2, R20). -/
def ReferenceUnit.exited (u : ReferenceUnit) : ReferenceUnit :=
  { u with record := LineRecord.reset, view := LineRecord.reset, viewCycle := 0 }

/-- What a change of kind (a) does (Table 5-6, column (a)). The station state entered, the isolation cause, the listen window and the
notices are given with each change. -/
structure SilentExit (s t : State) : Prop where
  reference : t.reference = s.reference.exited
  slots : t.slots = { s.slots with timing := none, cycle := 0, atBoundary := false }
  bus : t.bus = { s.bus with transmit := .idle, bde := false, btxIdle := true }
  assembled : t.assembled = none
  roster : t.roster = Roster.reset
  agreement : t.agreement = { s.agreement with own := none, others := [] }
  claims : t.claims = { s.claims.unannounced with view := Vector.replicate 16 none, runPermit := false }
  follower : t.follower = Follower.idle s.follower.record.cycle
  counts : t.life.quiet = 0 ∧ t.life.exclusion = 0 ∧ t.life.islandReported = 0
  joining : t.life.joiningSince = none ∧ t.life.admitting = none
  kept : t.life.restartCause = s.life.restartCause ∧ t.store = s.store ∧ t.inReset = s.inReset ∧ t.pending = s.pending

/-- What a change of kind (b) does (Table 5-6, column (b)), the timing and the cycle count apart. -/
structure MembershipExit (s t : State) : Prop where
  state : t.life.state = .joining
  bus : t.bus = s.bus ∧ t.assembled = s.assembled
  roster : t.roster = Roster.reset
  claims : t.claims = { s.claims.unannounced with view := Vector.replicate 16 none, runPermit := false }
  follower : t.follower = Follower.idle s.follower.record.cycle
  record : t.reference.record = LineRecord.reset
  own : t.agreement.own = none ∧ t.agreement.serial = s.agreement.serial
  counts : t.life.quiet = 0 ∧ t.life.islandReported = 0 ∧ t.life.joiningSince = none ∧ t.life.listenTimer = none
  kept : t.life.restartCause = s.life.restartCause ∧ t.store = s.store ∧ t.inReset = s.inReset ∧ t.pending = s.pending

/-- The port once an exit has zeroed the report-miss count (R144). -/
def LocalPort.countCleared (p : LocalPort) : LocalPort := { p with missCount := 0, silentDue := false }

/-- The values that a reset gives every block (0.5.9), read block by block, with the restart cause it records. -/
structure ResetState (cause : RestartCause) (t : State) : Prop where
  reference : t.reference.record = { ramp := .stopped, s := 0, t := 0, p := 0, epoch := 0, stoppedSince := 0 } ∧
    t.reference.divergence = false ∧ t.reference.lastPublished = .stopped
  agreement : t.agreement.own = none ∧ t.agreement.others = [] ∧ t.agreement.serial = 0
  stop : t.claims.stop = none ∧ ∀ n : Fin 4, t.claims.inputs[n] = { level := none, edgeFlag := false }
  hold : t.claims.manualHold = false ∧ t.claims.announced = false ∧ t.claims.announcedEffective = none ∧ t.claims.currentHold = false
  view : ∀ k : Station, t.claims.view[k] = none
  pins : t.claims.runPermit = false ∧ t.notices.attention = false ∧ t.bus.bde = false ∧ t.bus.btxIdle = true
  roster : ∀ k : Station, t.roster.entries[k] =
    { state := .absent, missed := 0, lastHeard := 0, digestHeard := 0, restartCause := none, joiningSince := none,
      admissionDue := none, leaveDue := none, joiningClaims := none, cycleMismatch := false }
  life : t.life.state = .unconfigured ∧ t.life.restartCause = cause ∧ t.life.isolation = none ∧ t.life.listenTimer = none
  counts : t.life.quiet = 0 ∧ t.life.exclusion = 0 ∧ t.life.leavingFrames = 0
  sets : t.life.joiningSince = none ∧ t.life.admitting = none ∧ t.life.memberHeard = false ∧ t.life.ownSeen = false ∧
    t.life.firstSet = none ∧ t.life.islandReported = 0 ∧ t.life.mismatchReported = 0
  frames : t.assembled = none ∧ t.bus.receipt = none ∧ t.bus.transmit = .idle ∧ t.bus.collisions = 0
  slots : t.slots.timing = none ∧ t.slots.cycle = 0
  follower : t.follower = Follower.idle 0
  count : t.port.missCount = 0
  notices : t.notices.queue = [] ∧ t.notices.lost = false
  store : t.store.accepted = none

/-! ### Tables of the manual as conditions -/

/-- Table 11-1: field `index` of the record lies in its accepted range. -/
def FieldInRange (r : ConfigRecord) : Nat → Prop
  | 1 => r.rateCode = 1 ∨ r.rateCode = 2 ∨ r.rateCode = 3
  | 2 => (if r.rateCode = 1 then 937 else if r.rateCode = 2 then 481 else 253) ≤ r.slotLength.toNat ∧ r.slotLength.toNat ≤ 5000
  | 3 => 1 ≤ r.smax.toNat ∧ r.smax.toNat ≤ 32767
  | 4 => 1 ≤ r.rampStep.toNat ∧ r.rampStep.toNat ≤ 4095
  | 5 => 1 ≤ r.stopStep.toNat ∧ r.stopStep.toNat ≤ 4095
  | 6 => 2 ≤ r.missedLimit.toNat ∧ r.missedLimit.toNat ≤ 8
  | 7 => 4 ≤ r.offerDeadline.toNat ∧ r.offerDeadline.toNat ≤ 32
  | 8 => 8192 ≤ r.draw.toNat ∧ r.draw.toNat ≤ 32767
  | 9 => r.kp.toNat ≤ 4095
  | 10 => True
  | 11 => r.imax.toNat ≤ 32767
  | 12 => r.trimMax.toNat ≤ 32767
  | 13 => 1 ≤ r.kf.toNat ∧ r.kf.toNat ≤ 32767
  | 14 => 1 ≤ r.lagLimit.toNat ∧ r.lagLimit.toNat ≤ 8388607
  | 15 => r.lagRelease.toNat < r.lagLimit.toNat
  | 16 => 1 ≤ r.lagCount.toNat ∧ r.lagCount.toNat ≤ 16
  | 17 => 1 ≤ r.ssMax.toNat
  | 18 => 1 ≤ r.reportTimeout.toNat ∧ r.reportTimeout.toNat ≤ 8
  | 19 => r.sti0.toNat ≤ 4
  | 20 => r.sti1.toNat ≤ 4
  | 21 => r.sti2.toNat ≤ 4
  | 22 => r.sti3.toNat ≤ 4
  | 23 => r.attentionMask.toNat ≤ 7
  | _ => True

/-- Table 3-3: a recognition at this level, from this one before it and with the edge flag as it was, raises the input's cause. -/
def InputRaises (mode : InputMode) (before : Option Bool) (flag high : Bool) : Prop :=
  (mode = .levelLow ∧ high = false) ∨ (mode = .levelHigh ∧ high = true) ∨
    (mode = .edgeFall ∧ before = some true ∧ high = false ∧ flag = false) ∨
    (mode = .edgeRise ∧ before = some false ∧ high = true ∧ flag = false)

/-- Is the own slot of the last own-slot start over: its close raised, or a new cycle begun (R33, R105)? The close of slot 16 may come after its
boundary. -/
def OwnSlotOver (s : State) : Prop :=
  ∃ t, s.slots.timing = some t ∧ (t.lateClose = none ∨ s.own.val ≠ 15) ∧ (contains t.closesRaised s.own = true ∨ t.ownStartRaised = false)

/-- When an event of the station's own blocks has come, out of reset: the slot timer's at their times (R131), the transmit offset and the end of
the last character (R123), the end of processing (R153), the expiry of the window (R95), and the counts and cycles at their limits. -/
def OwnEventDue (s : State) : Instr → Prop
  | .slotClose j => ∃ t, s.slots.timing = some t ∧ ((t.lateClose.isSome = true ∧ j.val = 15) ∨
      (contains t.closesRaised j = false ∧ t.slotStart s.cfg.slotLength.toNat j + s.cfg.slotLength.toNat ≤ s.slots.now))
  | .cycleBoundary exclusionFirst => exclusionFirst = false ∧
      ∃ t, s.slots.timing = some t ∧ t.slotStart s.cfg.slotLength.toNat 15 + s.cfg.slotLength.toNat ≤ s.slots.now
  | .ownSlotStart => s.life.state.transmits = true ∧
      ∃ t, s.slots.timing = some t ∧ t.ownStartRaised = false ∧ t.slotStart s.cfg.slotLength.toNat s.own ≤ s.slots.now
  | .listenWindowExpiry => s.life.state = .listening ∧ s.life.listenTimer = some 0
  | .transmitOffset => s.life.state.transmits = true ∧ s.bus.transmit = .idle ∧
      ∃ a, s.assembled = some a ∧ a.startedAt + 8 ≤ s.slots.now
  | .transmitEnd => ∃ a characters, s.assembled = some a ∧ s.bus.transmit = .sending characters ∧
      4 * (a.startedAt + 8) + frameQuarters s.cfg.rateCode characters.length ≤ 4 * s.slots.now
  | .responseReady => ∃ p : Processing, s.port.buffer = .pending p ∧ p.answer.isSome = true ∧ p.since + 25 ≤ s.slots.now
  | .busFault => s.life.state.transmits = true ∧ s.bus.collisions = 3
  | .missedLimit k => (s.life.state = .member ∨ s.life.state = .leaving) ∧ k ≠ s.own ∧ s.roster.entries[k].state ≠ .absent ∧
      s.roster.entries[k].missed = s.cfg.missedLimit.toNat
  | .leavingComplete => s.life.state = .leaving ∧ s.life.leavingFrames = 2 ∧ OwnSlotOver s
  | .withdrawnEntryRemoved => (∃ e b why, s.agreement.own = some e ∧ e.phase = .withdrawn b why 2) ∧ OwnSlotOver s
  | .expired => s.slots.atBoundary = true ∧ ∃ e b, s.agreement.own = some e ∧ e.phase = .offered b ∧
      s.slots.cycle = b.firstOffered + s.cfg.offerDeadline.setWidth 16
  | .gracePeriod => s.slots.atBoundary = true ∧ s.life.state.transmits = true ∧ ∃ e ∈ s.agreement.others, e.effective = none ∧
      s.slots.cycle = e.firstOffered + s.cfg.offerDeadline.setWidth 16 + 2
  | .lagHold => 1 ≤ s.cfg.lagCount.toNat ∧ ((s.follower.lagHold = false ∧ s.follower.overCount = s.cfg.lagCount.toNat) ∨
      (s.follower.lagHold = true ∧ s.follower.underCount = s.cfg.lagCount.toNat))
  | .localSilent => s.port.silentDue = true
  | .excluded => s.life.state = .member ∧ s.life.exclusion = 2
  | .quietCountExpiry => s.life.state = .joining ∧ s.life.quiet = s.cfg.missedLimit.toNat
  | _ => False

/-- When an event of the station's own blocks has come. In reset there is none but the end of a RESTART's processing (R88, R89). -/
def EventDue (s : State) (c : Instr) : Prop :=
  (s.inReset = false ∧ OwnEventDue s c) ∨
    (s.inReset = true ∧ c = .responseReady ∧ ∃ p : Processing, s.port.buffer = .pending p ∧ p.since + 25 ≤ s.slots.now)

/-- Table 1-1 and R3: the relations that a reference record keeps, with speeds within Smax. -/
structure RecordOk (smax : Nat) (r : LineRecord) : Prop where
  speed : r.s.toNat ≤ smax
  stopped : r.ramp = .stopped → r.s = 0 ∧ r.t = 0
  running : r.ramp.free = true → 1 ≤ r.t.toNat ∧ r.t.toNat ≤ smax
  steady : r.ramp = .steady → r.s = r.t
  stopping : r.ramp = .stopping → r.t = 0

/-- The configuration store: a record is accepted exactly outside UNCONFIGURED, with every field in its range (R169) and with its digest (R170,
R171); and a station in reset is UNCONFIGURED (R88). -/
structure StoreOk (s : State) : Prop where
  accepted : s.store.accepted.isSome = (s.life.state != .unconfigured)
  valid : ∀ a, s.store.accepted = some a → (∀ i, 1 ≤ i → i ≤ 23 → FieldInRange a.record i) ∧ a.digest = crc (linePartBytes a.record)
  reset : s.inReset = true → s.life.state = .unconfigured

end Sys2Proof.Machine
end

