-- ==== Sys2Proof/Certificates/Slice0/Obligations.lean ====
section
/-! DEFINITION. The statements for the provers. A statement about a command gives the whole next state: the blocks that are not named are
the blocks of the state before it. -/

open Sys2Proof Sys2Proof.Machine

/-! ## The step, the queue and reset -/

/-- In place of "a step runs the decoded instruction": a step runs the command at the front of the queue, with the queue's rest. -/
def Obligations.StepRunsFrontCommand : Prop :=
  ∀ (c : Instr) (rest : List Instr) (s : State), step { s with pending := c :: rest } = exec c { s with pending := rest }

/-- Every command completes in every state, and touches no command that waits. The model's choice (log entry 7): with no command waiting, the event of
the station's own blocks that has come is put in the queue; if none has, one microsecond passes, on the clock, the current slot and the listen window
timer (0.5.7, R93, R130). An event has come exactly where its own rule says (`EventDue`: R131, R123, R153, R95 and the counts and cycles at their
limits); of several, LAG_HOLD and LOCAL_SILENT come first, a close before that of a later slot, the own-slot start after the closes of earlier slots
and before that of its own, and the boundary after every close and own-slot start of its cycle (the model's order, log entries 7 and 8). That a
processing takes the 25 us that R153 allows at most, a RESTART's in reset too, is the model's (log entries 4 and 7). -/
def Obligations.CommandsCompleteAndTimePasses : Prop :=
  (∀ (c : Instr) (s : State), ∃ t, exec c s = .next t ∧ t.pending = s.pending) ∧
  (∀ s : State, s.pending = [] →
     (∀ c, s.due = some c → step s = .next { s with pending := [c] }) ∧
     (s.due = none → step s = .next { s with
       slots := { s.slots with
         now := s.slots.now + 1
         timing := s.slots.timing.map fun t => t.passed s.cfg.slotLength.toNat ((s.slots.now + 1 : Nat) : Int)
         atBoundary := false }
       life := { s.life with listenTimer := s.life.listenTimer.map (· - 1) } })) ∧
  (∀ s : State, (∀ c, s.due = some c → EventDue s c) ∧ (s.due = none → ∀ c, ¬ EventDue s c)) ∧
  (∀ s : State, s.inReset = false →
     (EventDue s .lagHold → s.due = some .lagHold) ∧
     (EventDue s .localSilent → ¬ EventDue s .lagHold → s.due = some .localSilent) ∧
     (∀ exclusionFirst, s.due = some (.cycleBoundary exclusionFirst) →
       ¬ EventDue s .ownSlotStart ∧ ∀ j, ¬ EventDue s (.slotClose j)) ∧
     (∀ t, s.slots.timing = some t → t.lateClose = none →
       (∀ j, s.due = some (.slotClose j) →
         (EventDue s .ownSlotStart → j.val < s.own.val) ∧ ∀ k, EventDue s (.slotClose k) → j.val ≤ k.val) ∧
       (s.due = some .ownSlotStart → ∀ k, EventDue s (.slotClose k) → s.own.val ≤ k.val)))

/-- POWER_ON and RESET_N bring every block to its reset values and the station into UNCONFIGURED (R88), with the restart cause POWER, or PIN
where no power-on reset runs; a transaction in progress is lost (R149). RESTART (R89), taken in every station state, resets with cause
REQUEST; while it is in processing the port stays PENDING, and its response is never made READY: with the processing over the port is reset with
the rest (R149, R159; when that is, is the model's choice, log entry 4). The cause of a pin reset
during a power-on reset is the model's reading (log entry 9). -/
def Obligations.ResetsBringResetValues : Prop :=
  (∀ s : State,
     (∃ t, exec .powerOn s = .next t ∧ ResetState .power t ∧ t.inReset = true ∧ t.pending = s.pending ∧
       t.port.buffer = .empty ∧ t.port.transaction = none ∧ t.port.lost = (s.port.lost || s.port.transaction.isSome)) ∧
     (∃ t, exec .resetN s = .next t ∧ ResetState (if s.inReset = true ∧ s.life.restartCause = .power then .power else .pin) t ∧
       t.inReset = true ∧ t.pending = s.pending ∧ t.port.buffer = .empty ∧ t.port.transaction = none ∧
       t.port.lost = (s.port.lost || s.port.transaction.isSome))) ∧
  (∀ s : State, s.takesTransaction = true →
     ∃ t, exec .restart s = .next t ∧ ResetState .request t ∧ t.inReset = true ∧ t.pending = s.pending ∧
       t.port.transaction = none ∧ t.port.lost = false ∧ t.port.buffer = .pending { kind := 0x7F, answer := none, since := 0 } ∧
       exec .responseReady t = .next { t with port := LocalPort.reset })

/-- RESET_COMPLETE (R88, R149, R159, R160, R161, R167): the straps give the station number, the local port is at its reset values, a transaction
begun before being lost, and the queue holds the one RESTARTED notice, with ATTN_N asserted for it. A reset overtakes everything (R88): while it
runs no event acts, and a transaction made in that time is lost (R149); only the resets themselves, their completion and the end of a RESTART's
processing act. That a reset turns every other command away, and that a completion without a reset has no effect, is the model's reading and
choice (log entry 9); when a RESTART's processing ends is its choice too (log entry 4). -/
def Obligations.AResetHoldsUntilItCompletes : Prop :=
  (∀ (straps : BitVec 4) (s : State),
     let port : LocalPort := { LocalPort.reset with lost := s.port.lost || s.port.transaction.isSome }
     (s.inReset = true → StoreOk s → TimingOk s →
       ∃ t, exec (.resetComplete straps) s = .next t ∧ stationNumber t.own = straps.toNat + 1 ∧
         t.notices.queue = [⟨.restarted, 0, straps.toNat + 1, s.life.restartCause.code, 0⟩] ∧ t.notices.lost = false ∧
         t.notices.attention = true ∧ t.port = port ∧
         t = { s with inReset := false, store := t.store, port := t.port, notices := t.notices } ∧ t.store.accepted = none) ∧
     (s.inReset = true → exec .responseReady s = .next (if s.port.buffer.isPending = true then { s with port := port } else s)) ∧
     (s.inReset = false → exec (.resetComplete straps) s = .next s)) ∧
  (∀ (c : Instr) (s : State), s.inReset = true → c ≠ .powerOn → c ≠ .resetN → (∀ straps, c ≠ .resetComplete straps) →
     c ≠ .responseReady → ∃ t, exec c s = .next t ∧
       t = { s with port := { s.port with transaction := t.port.transaction, lost := t.port.lost } })

/-! ## The local port -/

/-- TRANSACTION_START (R151): the envelope is fixed from the response buffer; its bytes sum to 0 modulo 256; and whether a request is in
processing decides that the bytes to come are discarded (R154). A fall of CS_N in reset is lost and shifts out zeros (R149), but for one that
falls while a RESTART is in processing, which gets PENDING (R159; that this lasts until RESPONSE_READY is the model's choice, log entry 4). -/
def Obligations.TransactionStartFixesEnvelope : Prop :=
  ∀ s : State,
    (s.inReset = false ∨ s.port.buffer.isPending = true →
      ∃ x : Transaction, exec .transactionStart s = .next { s with port := { s.port with transaction := some x } } ∧
        byteSum x.envelope = 0 ∧ x.shiftedIn = [] ∧ x.shiftedOut = 0 ∧
        (s.port.buffer = .empty → x.envelope = [0, 0, 0, 0, 0] ∧ x.discarded = false) ∧
        (∀ r : Response, s.port.buffer = .ready r → x.discarded = false ∧ ∃ check : Byte,
          x.envelope = [1, r.kindEcho, r.result.code, BitVec.ofNat 8 r.body.length] ++ r.body ++ [check]) ∧
        (∀ p : Processing, s.port.buffer = .pending p → x.discarded = true ∧ ∃ check : Byte, x.envelope = [2, p.kind, 0, 0, check])) ∧
    (s.inReset = true → s.port.buffer.isPending = false →
      exec .transactionStart s = .next { s with port := { s.port with transaction := none, lost := true } })

/-- The shift register (R149, R150, Table 9-1). Between the fall and the rise of CS_N each period of SCK shifts one bit in and one out, most
significant bit of a byte first: after n periods SDO carries bit n of the envelope, and zeros after its end. At the rise the whole bytes shifted
in are read as R152 says, the bits of an incomplete byte discarded; the bytes of a discarded or lost transaction are not read, and SDO carries
zeros for a lost one. With CS_N high SDO is not driven and an edge of SCK changes nothing. That the edges stand beside the commands is the
model's choice (log entry 19). -/
def Obligations.TransactionsShiftBits : Prop :=
  (∀ (s : State) (x : Transaction) (bytes : List Byte) (rest : List Bool), s.port.transaction = some x → x.shiftedIn = [] →
     x.shiftedOut = 0 → s.port.lost = false → rest.length < 8 →
     let t := (bytes.flatMap (fun b => (List.range 8).map b.getMsbD) ++ rest).foldl State.sckPeriod s
     t = { s with port := { s.port with transaction := t.port.transaction } } ∧
     t.sdo = some ((x.envelope.flatMap fun b => (List.range 8).map b.getMsbD).getD (8 * bytes.length + rest.length) false) ∧
     (x.discarded = false → t.riseCommand = transactionCommand bytes) ∧ (x.discarded = true → t.riseCommand = .transactionDiscarded)) ∧
  (∀ (s : State) (sdi : Bool),
     (s.port.lost = true → s.sdo = some false ∧ s.riseCommand = .transactionDiscarded) ∧
     (s.port.transaction = none → s.port.lost = false → s.sdo = none) ∧
     (s.port.transaction = none → s.sckRise sdi = s ∧ s.sckFall = s) ∧
     (s.sckRise sdi).sdo = s.sdo)

/-- A transaction that the port does not take (in reset or lost, R149; begun while a request was in processing, R154; short, R152) has no
effect on any block, and the buffer keeps its state and content. BAD_FORMAT and UNKNOWN_REQUEST (R152 steps 2 to 4) are answered with the
kind byte shifted in and an empty body, and have no other effect. That the request's command takes in its owner's work is the model's
reading (log entry 6). -/
def Obligations.TransactionsThatReachNoOwner : Prop :=
  ((∀ (wholeBytes : Nat) (s : State), exec (.shortTransaction wholeBytes) s = .next s.deselected) ∧
   (∀ s : State, exec .transactionDiscarded s = .next s.deselected) ∧
   (∀ (c : Instr) (s : State), s.takesTransaction = false →
     ((requestParts c).isSome = true ∨ (∃ kind, c = .badFormat kind) ∨ ∃ kind, c = .unknownRequest kind) →
     exec c s = .next s.deselected)) ∧
  (∀ (kind : Byte) (s : State), s.takesTransaction = true →
     exec (.badFormat kind) s = .next (s.answered kind .badFormat []) ∧
       exec (.unknownRequest kind) s = .next (s.answered kind .unknownRequest []))

/-- NOP (R155): a READY buffer becomes EMPTY, an EMPTY one stays EMPTY, and nothing begins processing. -/
def Obligations.NopEmptiesTheBuffer : Prop :=
  ∀ s : State, s.takesTransaction = true →
    exec .nop s = .next { s with port := { s.port with buffer := .empty, transaction := none, lost := false } }

/-- RESPONSE_READY (R153): the response of the request in processing is stored and the buffer becomes READY. With no request in processing,
and for a RESTART, there is nothing to store. That the request's command takes in its owner's work is the model's reading (log entry 6). -/
def Obligations.ResponseReadyStoresTheAnswer : Prop :=
  ∀ s : State, s.inReset = false →
    (∀ (p : Processing) (result : Result) (body : List Byte), s.port.buffer = .pending p → p.answer = some (result, body) →
      exec .responseReady s = .next { s with port := { s.port with
        buffer := .ready { kindEcho := p.kind, result := result, body := body } } }) ∧
    ((∀ p : Processing, s.port.buffer = .pending p → p.answer = none) → exec .responseReady s = .next s)

/-- Decode and encode agree on every request: the command that a request's envelope is read as is that request, with every operand at every
value (R150, R152, Table 12-4). -/
def Obligations.RequestEncodingReadsBack : Prop :=
  ∀ (i : Instr) (bytes more : List Byte), encodeRequest i = some bytes → transactionCommand (bytes ++ more) = i

/-! ## The configuration store -/

/-- CONFIGURE (R169, R170): in UNCONFIGURED a record with every field in range is kept with its digest, the station becomes IDLE, a report held is
discarded at that entry (R136), and the lowest-numbered level input that is already active becomes the cause of a clear stop claim (R56).
STATION_STATE is posted first (R90), then STOP_CLAIM for that input and CAUSE_ALSO for each further one, in ascending order, or, on a set claim,
CAUSE_ALSO for each cause not yet reported; that STATION_STATE precedes them is the model's choice (log entry 5). A record with a bad field is
answered BAD_CONFIG and nothing is kept; in any other state the request is refused. The fields are checked in ascending order of index against Table
11-1, and the first outside its range is the one named. READ_CONFIG (R172): WRONG_STATE in UNCONFIGURED; in every other state the station number, the
digest and the record as it was accepted, 42 bytes in all, which spell that record. That the request's command takes in its owner's work is the
model's reading (log entry 6). -/
def Obligations.TheConfigurationIsTakenAndRead : Prop :=
  ((∀ (r : ConfigRecord) (s : State), s.takesTransaction = true →
      (s.life.state = .unconfigured → (∀ i, 1 ≤ i → i ≤ 23 → FieldInRange r i) →
        ∃ t, exec (.configure r) s = .next t ∧
          t = { s.answered 0x01 .ok [] with
            store := { s.store with accepted := some { record := r, digest := crc (linePartBytes r) } }
            life := { s.life with state := .idle }
            claims := { s.claims with stop := t.claims.stop }
            follower := { s.follower with held := none }
            notices := t.notices } ∧
          t.notices.attention = attentionOf r.attentionMask t.notices.queue ∧
          (s.claims.stop = none → t.claims.stop.map (·.cause) =
            ((List.finRange 4).find? fun n => levelActive (t.inputMode n) s.claims.inputs[n].level).map .stopInput) ∧
          let active := (List.finRange 4).filter fun n => levelActive (t.inputMode n) s.claims.inputs[n].level
          let idle : State := { t with notices := s.notices, claims := s.claims }
          let posted : State := { idle with notices := idle.noticesAfter [stationStateNotice .idle .unconfigured] }
          let raised := active.foldl (fun u n => u.raise (.stopInput n)) posted
          t.claims.stop = raised.claims.stop ∧ t.notices = raised.notices ∧
          (active = [] → t.claims.stop = s.claims.stop ∧ t.notices = posted.notices) ∧
          ∀ n more, active = n :: more → s.claims.stop = none →
            t.claims.stop = some { cause := .stopInput n, effective := none, inForce := false, reported := more.map .stopInput } ∧
            t.notices = posted.noticesAfter ((.stopClaim, stationNumber s.own, (StopCause.stopInput n).code, 0) ::
              more.map fun m => (.causeAlso, stationNumber s.own, (StopCause.stopInput m).code, (StopCause.stopInput n).code.setWidth 16))) ∧
      (s.life.state = .unconfigured → ∀ index, firstBadField r = some index →
        exec (.configure r) s = .next (s.answered 0x01 .badConfig [BitVec.ofNat 8 index])) ∧
      (s.life.state ≠ .unconfigured → exec (.configure r) s = .next (s.answered 0x01 .wrongState []))) ∧
   (∀ r : ConfigRecord,
      (firstBadField r = none ↔ ∀ i, 1 ≤ i → i ≤ 23 → FieldInRange r i) ∧
      ∀ index, firstBadField r = some index ↔
        1 ≤ index ∧ index ≤ 23 ∧ ¬ FieldInRange r index ∧ ∀ j, 1 ≤ j → j < index → FieldInRange r j)) ∧
  (∀ s : State, s.takesTransaction = true →
     (s.life.state = .unconfigured → exec .readConfig s = .next (s.answered 0x44 .wrongState [])) ∧
     (s.life.state ≠ .unconfigured → ∀ a : Accepted, s.store.accepted = some a →
       ∃ bytes : List Byte, exec .readConfig s = .next (s.answered 0x44 .ok ([numberByte s.own] ++ halfBytes a.digest ++ bytes)) ∧
         ([numberByte s.own] ++ halfBytes a.digest ++ bytes).length = 42 ∧ recordOfBytes bytes = a.record))

/-! ## Notices -/

/-- A post (R163, R164): with room the notice goes to the tail; at 24 notices, of the 24 and the new one together, the oldest of the lowest
class present is discarded and the notices-lost flag set. ATTN_N is re-examined (R166). Nothing else changes. -/
def Obligations.PostKeepsTheQueueBounded : Prop :=
  ∀ (s : State) (kind : NoticeKind) (station : Nat) (detail : Byte) (value : BitVec 16),
    let n : Notice := { kind := kind, cycle := s.slots.cycle, station := station, detail := detail, value := value }
    let t := s.post kind station detail value
    t = { s with notices := t.notices } ∧ t.notices.attention = attentionOf s.attentionMask t.notices.queue ∧
    (s.notices.queue.length < 24 → t.notices.queue = s.notices.queue ++ [n] ∧ t.notices.lost = s.notices.lost) ∧
    (s.notices.queue.length = 24 → t.notices.lost = true ∧ t.notices.queue.length = 24 ∧
      ∃ (before after : List Notice) (gone : Notice), s.notices.queue ++ [n] = before ++ gone :: after ∧
        t.notices.queue = before ++ after ∧ (∀ m ∈ s.notices.queue ++ [n], gone.rank ≤ m.rank) ∧ ∀ m ∈ before, gone.rank < m.rank)

/-- READ_NOTICE (R165): EMPTY on an empty queue; otherwise the oldest notice of the highest class present leaves the queue and is the body,
the others keep their order, and ATTN_N is re-examined (R166). That the request's command takes in its owner's work is the model's reading
(log entry 6). -/
def Obligations.ReadNoticeReturnsTheOldestOfTheHighestClass : Prop :=
  ∀ s : State, s.takesTransaction = true →
    (s.notices.queue = [] → exec .readNotice s = .next (s.answered 0x43 .empty [])) ∧
    (s.notices.queue ≠ [] → ∃ (before after : List Notice) (n : Notice), s.notices.queue = before ++ n :: after ∧
      (∀ m ∈ s.notices.queue, m.rank ≤ n.rank) ∧ (∀ m ∈ before, m.rank < n.rank) ∧
      exec .readNotice s = .next { s.answered 0x43 .ok (noticeBody n) with
        notices := { s.notices with queue := before ++ after, attention := attentionOf s.attentionMask (before ++ after) } })

/-! ## Requests that read -/

/-- READ_SETPOINT and READ_STATUS (R157, R158) answer OK in every station state; READ_SETPOINT changes nothing, READ_STATUS shows the
notices-lost flag and clears it. READ_ROSTER and READ_PROPOSAL (R86, R48): a number outside 1..16 is OUT_OF_RANGE, an origin without an
entry is EMPTY, and otherwise the entry of that number is returned; neither changes anything. That the request's command takes in its
owner's work is the model's reading (log entry 6). -/
def Obligations.StatusRosterAndProposalsAreRead : Prop :=
  (∀ s : State, s.takesTransaction = true →
     exec .readSetpoint s = .next (s.answered 0x31 .ok (setpointBody s.follower.record)) ∧
     ∃ body : List Byte, exec .readStatus s = .next { s.answered 0x40 .ok body with notices := { s.notices with lost := false } } ∧
       body.length = 25 ∧
       body = [numberByte s.own, s.life.state.code, codeOr0 IsolationCause.code s.life.isolation, s.life.restartCause.code] ++
         halfBytes s.slots.cycle ++ [s.shownRecord.ramp.code] ++ halfBytes s.shownRecord.s ++
         halfBytes s.shownRecord.t ++ wordBytes s.shownRecord.p ++ [s.shownRecord.epoch] ++ halfBytes s.shownRecord.stoppedSince ++
         halfBytes s.memberSet ++ [codeOr0 StopCause.code (s.claims.stop.map (·.cause)), flagByte s.combinedHold,
         BitVec.ofNat 8 s.notices.queue.length, flagByte s.notices.lost, codeOr0 OwnPhase.code (s.agreement.own.map (·.phase))]) ∧
  (∀ (number : Byte) (s : State), s.takesTransaction = true →
     (number.toNat = 0 ∨ 16 < number.toNat → exec (.readRoster number) s = .next (s.answered 0x41 .outOfRange []) ∧
       exec (.readProposal number) s = .next (s.answered 0x42 .outOfRange [])) ∧
     (∀ k : Station, number.toNat = stationNumber k →
       exec (.readRoster number) s = .next (s.answered 0x41 .ok (s.rosterBody k)) ∧
       (s.shownEntry k = none → exec (.readProposal number) s = .next (s.answered 0x42 .empty [])) ∧
       ∀ e, s.shownEntry k = some e → e.origin = k ∧ exec (.readProposal number) s = .next (s.answered 0x42 .ok (proposalBody e))))

/-- The layouts of the bodies that the requests return (Tables 12-7 and 12-9, 12.7), field by field at the tables' offsets: the setpoint record,
the roster entry, the proposal entry and the notice record. The bytes of an F above 65535 are a free value (log entry 3). -/
def Obligations.BodiesFollowTheirLayouts : Prop :=
  (∀ r : SetpointRecord, let b := setpointBody r
     b.length = 16 ∧ halfAt b 0 = r.cycle ∧ byteAt b 2 = r.ramp.code ∧
     (∀ i, (byteAt b 3).getLsbD i = (decide (i = 0) && r.member || decide (i = 1) && r.permit || decide (i = 2) && r.lagHold ||
       decide (i = 3) && r.originLatched)) ∧
     halfAt b 4 = BitVec.ofNat 16 r.setpoint ∧ (r.f < 65536 → halfAt b 6 = BitVec.ofNat 16 r.f) ∧
     halfAt b 8 = BitVec.ofInt 16 r.trim ∧ wordAt b 10 = BitVec.ofInt 32 r.ef ∧ halfAt b 14 = r.s) ∧
  (∀ (s : State) (k : Station), let b := s.rosterBody k; let e := s.rosterEntry k
     b.length = 16 ∧ (byteAt b 0).toNat = stationNumber k ∧ byteAt b 1 = e.state.code ∧
     (∀ i, (byteAt b 2).getLsbD i = (decide (i = 0) && s.isMember k || decide (i = 1) && e.restartCause.isSome ||
       decide (i = 2) && e.joiningSince.isSome || decide (i = 3) && e.admissionDue.isSome || decide (i = 4) && e.leaveDue.isSome ||
       decide (i = 5) && e.cycleMismatch)) ∧
     byteAt b 3 = BitVec.ofNat 8 e.missed ∧ halfAt b 4 = e.lastHeard ∧ halfAt b 6 = e.digestHeard ∧
     byteAt b 8 = codeOr0 RestartCause.code e.restartCause ∧ halfAt b 9 = e.joiningSince.getD 0 ∧
     halfAt b 11 = e.admissionDue.getD 0 ∧ halfAt b 13 = e.leaveDue.getD 0 ∧ byteAt b 15 = s.cfg.missedLimit) ∧
  (∀ e : ShownEntry, let b := proposalBody e
     b.length = 20 ∧ (byteAt b 0).toNat = stationNumber e.origin ∧ byteAt b 1 = e.serial ∧ byteAt b 2 = e.kind.code ∧
     halfAt b 3 = e.target ∧ byteAt b 5 = e.phase ∧
     (∀ i, (byteAt b 6).getLsbD i = (decide (i = 0) && e.offered.isSome || decide (i = 1) && e.acks.isSome ||
       decide (i = 2) && e.refusal.isSome || decide (i = 3) && e.verdict.isSome || decide (i = 4) && e.effective.isSome ||
       decide (i = 5) && e.withdrawn.isSome || decide (i = 6) && e.announced.isSome)) ∧
     halfAt b 7 = (e.offered.map (·.1)).getD 0 ∧ halfAt b 9 = (e.offered.map (·.2)).getD 0 ∧ halfAt b 11 = e.acks.getD 0 ∧
     (byteAt b 13).toNat = (e.refusal.map fun x => stationNumber x.1).getD 0 ∧
     byteAt b 14 = codeOr0 Reason.code (e.refusal.map (·.2)) ∧ byteAt b 15 = codeOr0 Verdict.code e.verdict ∧
     halfAt b 16 = e.effective.getD 0 ∧ byteAt b 18 = codeOr0 WithdrawReason.code e.withdrawn ∧
     byteAt b 19 = BitVec.ofNat 8 (e.announced.getD 0)) ∧
  (∀ n : Notice, let b := noticeBody n
     b.length = 7 ∧ byteAt b 0 = n.kind.code ∧ halfAt b 1 = n.cycle ∧ byteAt b 3 = BitVec.ofNat 8 n.station ∧
     byteAt b 4 = n.detail ∧ halfAt b 5 = n.value)

/-! ## The station life cycle -/

/-- JOIN (R92): in IDLE and ISOLATED the station becomes LISTENING with a listen window of 32 slot lengths, the collision count 0 and no
isolation cause; in every other state the request is refused. (The emptied mismatch-reported set is R93, the discarded report R136, the
notice R90.) LEAVE (R104, R105, R36, R106): Table 5-5 by station state, with what each change of state does. That the request's command takes in
its owner's work is the model's reading (log entry 6). The order of two blocks' notices, and the cycle count 0 that those of a change to a silent
state carry, are the model's choice (log entry 5). An assembled frame not yet begun is discarded too (log entry 13). -/
def Obligations.JoinAndLeaveActByState : Prop :=
  (∀ s : State, s.takesTransaction = true →
     (s.life.state = .idle ∨ s.life.state = .isolated → exec .join s = .next { s.answered 0x02 .ok [] with
       life := { s.life with
         state := .listening, isolation := none, listenTimer := some (32 * s.cfg.slotLength.toNat), mismatchReported := 0 }
       bus := { s.bus with collisions := 0 }
       follower := { s.follower with held := none }
       notices := s.noticesAfter [stationStateNotice .listening s.life.state] }) ∧
     (s.life.state ≠ .idle ∧ s.life.state ≠ .isolated → exec .join s = .next (s.answered 0x02 .wrongState []))) ∧
  (∀ s : State, s.takesTransaction = true →
     (s.life.state = .listening → exec .leave s = .next { s.answered 0x03 .ok [] with
       life := { s.life with state := .idle, listenTimer := none }
       follower := { s.follower with held := none }
       notices := s.noticesAfter [stationStateNotice .idle .listening] }) ∧
     (s.life.state = .joining → ∃ t, exec .leave s = .next t ∧ SilentExit s t ∧ t.life.state = .idle ∧ t.life.listenTimer = none ∧
       t.life.isolation = s.life.isolation ∧ t.port = (s.answered 0x03 .ok []).port.countCleared ∧
       t.notices = (s.atCycle 0).noticesAfter (stationStateNotice .idle .joining :: discardNotices s.agreement.own)) ∧
     (s.life.state = .member → s.reference.record.ramp = .stopped → exec .leave s = .next { s.answered 0x03 .ok [] with
       life := { s.life with
         state := .leaving, listenTimer := none, exclusion := 0, joiningSince := none, admitting := none, memberHeard := false,
         ownSeen := false, firstSet := none, islandReported := 0, leavingFrames := 0 }
       reference := s.reference.exited
       claims := { s.claims with view := Vector.replicate 16 none, runPermit := false }
       follower := Follower.idle s.follower.record.cycle
       port := (s.answered 0x03 .ok []).port.countCleared
       roster := { s.roster with entries := s.roster.entries.map fun e => { e with admissionDue := none } }
       agreement := { s.agreement with own := (leavingEntry s.agreement.own).1 }
       notices := s.noticesAfter (stationStateNotice .leaving .member :: (leavingEntry s.agreement.own).2) }) ∧
     ((s.life.state = .member ∧ s.reference.record.ramp ≠ .stopped) ∨ s.life.state = .unconfigured ∨ s.life.state = .idle ∨
       s.life.state = .leaving ∨ s.life.state = .isolated → exec .leave s = .next (s.answered 0x03 .wrongState [])))

/-- The counts that change the station state: three collisions (R102), two LEAVING frames (R105) and M quiet cycles (R96) by a change of kind (a)
(R106); the exclusion count at 2 (R98) by one of kind (b), which keeps the timing and the cycle count, EXCLUDED with the first member set of the ended
cycle posted before STATION_STATE. A command whose count does not stand at its limit has no effect. That a command whose condition does not stand has
no effect is the model's reading (log entry 8). The notices of the quiet count's change, which is made at a boundary, carry the count of the new cycle
(R96, R161). The order of two blocks' notices, and the cycle count 0 that those of the other two changes to a silent state carry, are the model's
choice (log entry 5). An assembled frame not yet begun is discarded too, and one of a MEMBER that becomes JOINING is kept (log entry 13). That
LEAVING_COMPLETE acts whether or not the own slot's close has been raised is the model's choice (log entry 10). -/
def Obligations.CountsAtTheirLimitsChangeTheState : Prop :=
  (∀ s : State, s.inReset = false →
     (s.life.state.transmits = true ∧ s.bus.collisions = 3 → ∃ t, exec .busFault s = .next t ∧ SilentExit s t ∧
       t.life.state = .isolated ∧ t.life.isolation = some .collisions ∧ t.life.listenTimer = none ∧ t.port = s.port.countCleared ∧
       t.notices = (s.atCycle 0).noticesAfter ((.busFault, 0, IsolationCause.collisions.code, 3) ::
         stationStateNotice .isolated s.life.state :: discardNotices s.agreement.own)) ∧
     (s.life.state.transmits = false ∨ s.bus.collisions ≠ 3 → exec .busFault s = .next s) ∧
     (s.life.state = .leaving ∧ s.life.leavingFrames = 2 → ∃ t, exec .leavingComplete s = .next t ∧ SilentExit s t ∧
       t.life.state = .idle ∧ t.life.isolation = s.life.isolation ∧ t.life.listenTimer = none ∧ t.port = s.port.countCleared ∧
       t.notices = (s.atCycle 0).noticesAfter (stationStateNotice .idle .leaving :: discardNotices s.agreement.own)) ∧
     (s.life.state ≠ .leaving ∨ s.life.leavingFrames ≠ 2 → exec .leavingComplete s = .next s) ∧
     (s.life.state = .joining ∧ s.life.quiet = s.cfg.missedLimit.toNat → ∃ t, exec .quietCountExpiry s = .next t ∧ SilentExit s t ∧
       t.life.state = .listening ∧ t.life.isolation = s.life.isolation ∧ t.life.mismatchReported = 0 ∧
       t.life.listenTimer = some (32 * s.cfg.slotLength.toNat) ∧ t.port = s.port.countCleared ∧
       t.notices = s.noticesAfter (stationStateNotice .listening .joining :: discardNotices s.agreement.own)) ∧
     (s.life.state ≠ .joining ∨ s.life.quiet ≠ s.cfg.missedLimit.toNat → exec .quietCountExpiry s = .next s)) ∧
  (∀ s : State, s.inReset = false →
     (s.life.state = .member ∧ s.life.exclusion = 2 → ∃ t, exec .excluded s = .next t ∧ MembershipExit s t ∧ t.slots = s.slots ∧
       t.reference = s.reference.exited ∧ t.agreement.others = [] ∧ t.life.admitting = none ∧ t.life.memberHeard = false ∧
       t.life.ownSeen = false ∧ t.life.firstSet = none ∧ t.port = s.port.countCleared ∧
       t.notices = s.noticesAfter ((.excluded, 0, 0, s.life.firstSet.getD 0) :: stationStateNotice .joining .member ::
         discardNotices s.agreement.own)) ∧
     (s.life.state ≠ .member ∨ s.life.exclusion ≠ 2 → exec .excluded s = .next s))

/-- LISTEN_WINDOW_EXPIRY (R95, R132): a LISTENING station with an empty table founds a line: MEMBER alone in cycle 0, its own slot starting now and
the first boundary (17 − own number) slot lengths on, the record at the values of R2, and its first frame assembled at once, with effective cycle 2
for a set stop claim and for a set hold, announced as a change (R51, R59). That the event is taken whatever the clock shows, and at most once a cycle,
is the model's choice (log entry 10). A held report is dropped (log entry 16). -/
def Obligations.ListenWindowExpiryFoundsALine : Prop :=
  ∀ s : State, s.inReset = false →
    (s.life.state = .listening → s.agreement.own = none → s.agreement.others = [] →
      ∃ t timing a, exec .listenWindowExpiry s = .next t ∧ t.life.state = .member ∧ t.life.listenTimer = none ∧ t.life.exclusion = 0 ∧
        t.slots = { s.slots with timing := some timing, cycle := 0, atBoundary := false } ∧
        timing.slotStart s.cfg.slotLength.toNat s.own = s.slots.now ∧
        timing.cycleEnd s.cfg.slotLength.toNat = s.slots.now + (17 - (stationNumber s.own : Int)) * s.cfg.slotLength.toNat ∧
        timing.ownStartRaised = true ∧ (∀ j : Station, contains timing.closesRaised j = decide (j.val < s.own.val)) ∧
        (∀ k : Station, t.isMember k = decide (k = s.own)) ∧ t.reference.record = LineRecord.reset ∧
        t.agreement = s.agreement ∧ t.bus = s.bus ∧ t.port = s.port ∧ t.store = s.store ∧
        t.follower = { s.follower with held := none } ∧
        t.claims.stop = s.claims.stop.map (fun k => { k with effective := some (k.effective.getD 2) }) ∧
        (let announces : Prop := s.combinedHold ≠ s.claims.announced ∧ s.claims.announcedEffective = none
         (announces → t.claims.announced = s.combinedHold ∧ t.claims.announcedEffective = some 2) ∧
         (¬ announces → t.claims.announced = s.claims.announced ∧ t.claims.announcedEffective = s.claims.announcedEffective)) ∧
        (s.claims.manualHold = true → s.claims.announced = false → s.claims.announcedEffective = none →
          t.claims.announced = true ∧ a.hold = true ∧ a.holdEffective = 2) ∧
        t.claims = { s.claims with
          stop := t.claims.stop, announced := t.claims.announced, announcedEffective := t.claims.announcedEffective } ∧
        t.assembled = some { frame := a, startedAt := s.slots.now } ∧
        a = { station := s.own, cycle := 0, state := .member, digest := s.digest, reference := referencePartOf LineRecord.reset,
              members := singleton s.own, stopCause := s.claims.stop.map (·.cause),
              stopEffective := (t.claims.stop.bind (·.effective)).getD 0, hold := t.claims.announced,
              holdEffective := t.claims.announcedEffective.getD 0, restartCause := none, joiningSince := 0,
              offer := none, decision := none, responses := [] } ∧
        t.notices = (s.atCycle 0).noticesAfter [stationStateNotice .member .listening]) ∧
    (s.life.state ≠ .listening → exec .listenWindowExpiry s = .next s)

/-! ## Proposals and agreement -/

/-- The offer checks (R24, R25, R66): each reason of Table 2-3 is given exactly where its check is the first that fails. `voters` is present
when a voter checks, and `checked` is the origin of the entry checked, which is never counted against itself. -/
def Obligations.OfferChecksFollowTheTable : Prop :=
  ∀ (s : State) (target : Speed) (voters : Option StationSet) (checked : Station),
    let ramp := s.reference.record.ramp
    let outside : Prop := target.toNat = 0 ∨ s.cfg.smax.toNat < target.toNat
    let badSet : Prop := ∃ w, voters = some w ∧ w ≠ s.memberSet
    let claimed := StopClaimed s.claims
    let startCheck := s.offerCheck .start target voters checked
    let rampCheck := s.offerCheck .rampTo target voters checked
    (startCheck = some .notStopped ↔ ramp ≠ .stopped) ∧
    (startCheck = some .stopClaimed ↔ ramp = .stopped ∧ claimed) ∧
    (startCheck = some .membership ↔ ramp = .stopped ∧ ¬ claimed ∧ badSet) ∧
    (startCheck = some .outOfRange ↔ ramp = .stopped ∧ ¬ claimed ∧ ¬ badSet ∧ outside) ∧
    (startCheck = some .conflict ↔ ramp = .stopped ∧ ¬ claimed ∧ ¬ badSet ∧ ¬ outside ∧ Conflicts s checked) ∧
    (startCheck = none ↔ ramp = .stopped ∧ ¬ claimed ∧ ¬ badSet ∧ ¬ outside ∧ ¬ Conflicts s checked) ∧
    (rampCheck = some .lineStopping ↔ ramp = .stopping) ∧
    (rampCheck = some .notRunning ↔ ramp = .stopped) ∧
    (rampCheck = some .outOfRange ↔ ramp.free = true ∧ outside) ∧
    (rampCheck = some .conflict ↔ ramp.free = true ∧ ¬ outside ∧ Conflicts s checked) ∧
    (rampCheck = none ↔ ramp.free = true ∧ ¬ outside ∧ ¬ Conflicts s checked)

/-- OFFER_START and OFFER_RAMP (R26): the tests in their order; where they pass, a QUEUED own entry with the next serial, which the body
carries; where one fails, neither the table nor the counter changes. WITHDRAW_OFFER (R35, Table 2-4), by the own entry's phase. That the
request's command takes in its owner's work is the model's reading (log entry 6). -/
def Obligations.OfferRequestsActOnTheOwnEntry : Prop :=
  (∀ (s : State) (target : Speed) (kind : OfferKind), s.takesTransaction = true →
     let c : Instr := match kind with
       | .start => .offerStart target
       | .rampTo => .offerRamp target
     let code : Byte := match kind with
       | .start => 0x10
       | .rampTo => 0x11
     (s.life.state ≠ .member → exec c s = .next (s.answered code .wrongState [])) ∧
     (s.life.state = .member → s.agreement.own ≠ none → exec c s = .next (s.answered code .busy [])) ∧
     (s.life.state = .member → s.agreement.own = none → ∀ why, s.offerCheck kind target none s.own = some why →
       exec c s = .next (s.answered code why.result [])) ∧
     (s.life.state = .member → s.agreement.own = none → s.offerCheck kind target none s.own = none →
       exec c s = .next { s.answered code .ok [s.agreement.serial + 1] with
         agreement := { s.agreement with
           own := some { serial := s.agreement.serial + 1, kind := kind, target := target, phase := .queued }
           serial := s.agreement.serial + 1 } })) ∧
  (∀ s : State, s.takesTransaction = true →
     (s.agreement.own = none → exec .withdrawOffer s = .next (s.answered 0x12 .wrongState [])) ∧
     ∀ e : OwnEntry, s.agreement.own = some e →
       (e.phase = .queued → exec .withdrawOffer s = .next { s.answered 0x12 .ok [] with
         agreement := { s.agreement with own := none }
         notices := s.noticesAfter [offerResultNotice .originWithdrew e.serial 0 0] }) ∧
       (∀ b, e.phase = .offered b → exec .withdrawOffer s = .next { s.answered 0x12 .ok [] with
         agreement := { s.agreement with own := some { e with phase := .withdrawn b .originWithdrew 0 } }
         notices := s.noticesAfter [offerResultNotice .originWithdrew e.serial 0 0] }) ∧
       (∀ b effective n, e.phase = .committed b effective n → exec .withdrawOffer s = .next (s.answered 0x12 .tooLate [])) ∧
       (∀ b why n, e.phase = .withdrawn b why n → exec .withdrawOffer s = .next (s.answered 0x12 .wrongState [])))

/-- The ends of entries by time and count: the deadline of an own OFFERED entry (R32), a WITHDRAWN own entry announced twice (R33), and the quiet
removal of other origins' OFFERED entries at the end of the grace period (R43). LAG_HOLD and LOCAL_SILENT (R145, R148): a lag count at N, which is at
least 1, sets or clears the lag hold and zeroes both counters; a report-miss count that has come to Nrep raises LOCAL_SILENT. Where the condition does
not stand the command has no effect: the model's reading (log entry 8). That a withdrawn entry goes whether or not the own slot's close has been
raised is its choice (log entry 10). Where their notices stand among those of the boundary is its choice too (log entry 5). -/
def Obligations.LimitsAreTaken : Prop :=
  (∀ s : State, s.inReset = false →
     (∀ e b, s.agreement.own = some e → e.phase = .offered b → s.slots.cycle = b.firstOffered + s.cfg.offerDeadline.setWidth 16 →
       exec .expired s = .next { s with
         agreement := { s.agreement with own := some { e with phase := .withdrawn b .expired 0 } }
         notices := s.noticesAfter [offerResultNotice .expired e.serial 0 0] }) ∧
     ((∀ e b, s.agreement.own = some e → e.phase = .offered b → s.slots.cycle ≠ b.firstOffered + s.cfg.offerDeadline.setWidth 16) →
       exec .expired s = .next s) ∧
     (∀ e b why, s.agreement.own = some e → e.phase = .withdrawn b why 2 →
       exec .withdrawnEntryRemoved s = .next { s with agreement := { s.agreement with own := none } }) ∧
     ((∀ e b why, s.agreement.own = some e → e.phase ≠ .withdrawn b why 2) → exec .withdrawnEntryRemoved s = .next s) ∧
     (s.life.state.transmits = true → ∃ t, exec .gracePeriod s = .next t ∧
       t = { s with agreement := { s.agreement with others := t.agreement.others } } ∧
       t.agreement.others.Sublist s.agreement.others ∧ ∀ e, e ∈ t.agreement.others ↔ e ∈ s.agreement.others ∧
         ¬ (e.effective = none ∧ s.slots.cycle = e.firstOffered + s.cfg.offerDeadline.setWidth 16 + 2)) ∧
     (s.life.state.transmits = false → exec .gracePeriod s = .next s)) ∧
  (∀ s : State, s.inReset = false →
     let n := s.cfg.lagCount.toNat
     let f := s.follower
     (1 ≤ n → f.lagHold = false → f.overCount = n → exec .lagHold s = .next { s with
       follower := { f with lagHold := true, overCount := 0, underCount := 0, record := { f.record with lagHold := true } } }) ∧
     (1 ≤ n → f.lagHold = true → f.underCount = n → exec .lagHold s = .next { s with
       follower := { f with lagHold := false, overCount := 0, underCount := 0, record := { f.record with lagHold := false } } }) ∧
     (n = 0 ∨ f.lagHold = false ∧ f.overCount ≠ n ∨ f.lagHold = true ∧ f.underCount ≠ n → exec .lagHold s = .next s) ∧
     (s.port.silentDue = true → exec .localSilent s = .next { s with
       port := { s.port with silentDue := false }
       claims := (s.raise .localSilent).claims
       notices := (s.raise .localSilent).notices }) ∧
     (s.port.silentDue = false → exec .localSilent s = .next s))

/-- The agreement part of a member's frame (R29, R40, R41, R42, R43), which a MEMBER takes with its offer, its decision and its responses, and a
LEAVING station with its decision alone. An offer of a new serial is recorded last, in place of an entry of its origin with
another serial; one already held changes nothing. A COMMIT of a held serial commits its entry, with the effective cycle first recorded; of one that is
not held it raises MISSED_CHANGE at a MEMBER. A withdrawal removes the entry of its serial. A response to the own OFFERED entry counts once for each
voter: an ACK adds the voter to the ack set, a refusal is recorded where none is. -/
def Obligations.TheAgreementPartIsTaken : Prop :=
  (∀ (s : State) (f : Frame),
     (s.life.state = .member → s.takeAgreementPart f = (s.takeProposalParts f).collectVerdicts f.station f.responses) ∧
     (s.life.state = .leaving → s.takeAgreementPart f = s.takeProposalParts { f with offer := none })) ∧
  (∀ (s : State) (f : Frame),
    let k := f.station
    let others := s.agreement.others
    let held (serial : Byte) : Prop := ∃ e, others.find? (fun e => e.origin == k) = some e ∧ e.serial = serial
    let withOthers (l : List OtherEntry) : State := { s with agreement := { s.agreement with others := l } }
    (f.offer = none → f.decision = none → s.takeProposalParts f = s) ∧
    (∀ o, f.offer = some o → f.decision = none → f.state = .member →
      (held o.serial ∨ s.life.state = .leaving → s.takeProposalParts f = s) ∧
      (¬ held o.serial → s.life.state ≠ .leaving → s.takeProposalParts f = withOthers (others.filter (fun e => e.origin != k) ++
        [{ origin := k, serial := o.serial, kind := o.kind, target := o.target, firstOffered := o.firstOffered, voters := o.voters,
           verdict := none, effective := none }]))) ∧
    (∀ d, f.offer = none → f.decision = some d →
      (held d.serial → d.outcome = .commit → s.takeProposalParts f = withOthers (others.map fun e =>
        if e.origin = k then { e with effective := some (e.effective.getD d.effective) } else e)) ∧
      (held d.serial → d.outcome ≠ .commit → s.takeProposalParts f = withOthers (others.filter fun e => e.origin != k)) ∧
      (¬ held d.serial → d.outcome = .commit → s.life.state = .member → s.takeProposalParts f = s.raise .missedChange) ∧
      (¬ held d.serial → (d.outcome ≠ .commit ∨ s.life.state ≠ .member) → s.takeProposalParts f = s))) ∧
  ∀ (s : State) (k : Station) (responses : List ResponsePart),
    ((∀ e b, s.agreement.own = some e → e.phase ≠ .offered b) → s.collectVerdicts k responses = s) ∧
    ∀ e b, s.agreement.own = some e → e.phase = .offered b →
      let read (r : ResponsePart) : Prop := r.origin = s.own ∧ r.serial = e.serial
      let counts : Prop := contains b.voters k = true ∧ contains b.acks k = false ∧ ∀ why, b.refusal ≠ some (k, why)
      let withBallot (b' : Ballot) : State :=
        { s with agreement := { s.agreement with own := some { e with phase := .offered b' } } }
      ((∀ r ∈ responses, ¬ read r) ∨ ¬ counts → s.collectVerdicts k responses = s) ∧
      ∀ before r after, responses = before ++ r :: after → read r → (∀ x ∈ before ++ after, ¬ read x) → counts →
        (r.verdict = .ack → s.collectVerdicts k responses = withBallot { b with acks := setInsert b.acks k }) ∧
        ∀ why, r.verdict = .refuse why →
          s.collectVerdicts k responses = withBallot { b with refusal := some (b.refusal.getD (k, why)) }

/-! ## Claims -/

/-- RAISE_STOP and every other raise (R50, R53): a raise sets a clear claim with its cause and posts STOP_CLAIM; on a set claim it posts
CAUSE_ALSO once for each further cause, and changes nothing else of the claim. CLEAR_STOP (R52): refused at a MEMBER whose record is not
STOPPED; otherwise the edge flags and the claim are cleared, and the lowest-numbered input whose recognised level is active in a level mode
raises the claim again. SET_HOLD and RELEASE_HOLD (R58) set and clear the manual hold. That the request's command takes in its owner's work is the
model's reading (log entry 6). -/
def Obligations.ClaimRequestsAct : Prop :=
  ((∀ (s : State) (cause : StopCause),
     (s.claims.stop = none → s.raise cause = { s with
       claims := { s.claims with stop := some { cause := cause, effective := none, inForce := false, reported := [] } }
       notices := s.noticesAfter [(.stopClaim, stationNumber s.own, cause.code, 0)] }) ∧
     ∀ k, s.claims.stop = some k →
       (cause = k.cause ∨ cause ∈ k.reported → s.raise cause = s) ∧
       (cause ≠ k.cause → cause ∉ k.reported → s.raise cause = { s with
         claims := { s.claims with stop := some { k with reported := k.reported ++ [cause] } }
         notices := s.noticesAfter [(.causeAlso, stationNumber s.own, cause.code, k.cause.code.setWidth 16)] })) ∧
   ∀ s : State, s.takesTransaction = true →
     exec .raiseStop s = .next { s.answered 0x20 .ok [] with
       claims := (s.raise .localRequest).claims
       notices := (s.raise .localRequest).notices }) ∧
  ((∀ s : State, s.takesTransaction = true →
      let cleared : Vector StopInput 4 := s.claims.inputs.map fun i => { i with edgeFlag := false }
      let active (n : Fin 4) : Prop := (s.inputMode n = .levelLow ∧ s.claims.inputs[n].level = some false) ∨
        (s.inputMode n = .levelHigh ∧ s.claims.inputs[n].level = some true)
      (s.life.state = .member ∧ s.reference.record.ramp ≠ .stopped → exec .clearStop s = .next (s.answered 0x21 .wrongState [])) ∧
      (¬ (s.life.state = .member ∧ s.reference.record.ramp ≠ .stopped) →
        ((∀ n, ¬ active n) → exec .clearStop s = .next { s.answered 0x21 .ok [] with
          claims := { s.claims with stop := none, inputs := cleared } }) ∧
        ∀ n, active n → (∀ m, m < n → ¬ active m) → exec .clearStop s = .next { s.answered 0x21 .stillActive [] with
          claims := { s.claims with
            stop := some { cause := .stopInput n, effective := none, inForce := false, reported := [] }, inputs := cleared }
          notices := s.noticesAfter [(.stopClaim, stationNumber s.own, (StopCause.stopInput n).code, 0)] })) ∧
   (∀ s : State, s.takesTransaction = true →
      exec .setHold s = .next { s.answered 0x22 .ok [] with claims := { s.claims with manualHold := true } } ∧
      exec .releaseHold s = .next { s.answered 0x23 .ok [] with claims := { s.claims with manualHold := false } }))

/-- STOP_INPUT_RECOGNISED (R54, R55): the level becomes the recognised one; the cause is raised exactly where Table 3-3 says; in an edge mode
the matching edge latches the flag; a level already recognised changes nothing. -/
def Obligations.StopInputsActByMode : Prop :=
  ∀ (s : State) (n : Fin 4) (high : Bool), s.inReset = false →
    let before := s.claims.inputs[n]
    let edge : Prop := (s.inputMode n = .edgeFall ∨ s.inputMode n = .edgeRise) ∧
      InputRaises (s.inputMode n) before.level before.edgeFlag high
    (before.level = some high → exec (.stopInputRecognised n high) s = .next s) ∧
    (before.level ≠ some high → ∀ flag : Bool, (flag = true ↔ before.edgeFlag = true ∨ edge) →
      let t := { s with claims := { s.claims with inputs := s.claims.inputs.set n { level := some high, edgeFlag := flag } } }
      (InputRaises (s.inputMode n) before.level before.edgeFlag high →
        exec (.stopInputRecognised n high) s = .next (t.raise (.stopInput n))) ∧
      (¬ InputRaises (s.inputMode n) before.level before.edgeFlag high → exec (.stopInputRecognised n high) s = .next t))

/-- The stop and hold parts of a member's frame, taken against its record (Table 3-6, R62, R63); and with no record yet, the record created from
the frame (R61): a pair ahead makes the current hold the opposite of the state heard, a pair due makes it that state, and the stop claim is taken as
one first heard. No MISSED_CHANGE is raised there. -/
def Obligations.ClaimPartsFollowTheirTables : Prop :=
  (∀ (s : State) (f : Frame), s.claims.view[f.station] = none →
    let k := f.station
    let c := s.slots.cycle
    let created (stop : Option HeardStop) : State := s.setRecord k (some (if ahead f.holdEffective c = true
      then { stop := stop, hold := !f.hold, pendingHold := some (f.hold, f.holdEffective) }
      else { stop := stop, hold := f.hold, pendingHold := none }))
    let noted (cause : StopCause) (inForce : Bool) : State :=
      (created (some { cause := cause, effective := f.stopEffective, inForce := inForce })).post .stopClaim (stationNumber k) cause.code
        f.stopEffective
    (f.stopCause = none → s.takeStopPart f = created none) ∧
    (∀ cause, f.stopCause = some cause →
      (ahead f.stopEffective c = true → s.takeStopPart f = noted cause false) ∧
      (ahead f.stopEffective c = false → s.takeStopPart f = (noted cause true).lateStop)) ∧
    s.takeHoldPart f = s) ∧
  ∀ (s : State) (f : Frame) (r : ClaimRecord), s.claims.view[f.station] = some r →
    let k := f.station
    let first (cause : StopCause) : State := (s.setRecord k (some { r with
      stop := some { cause := cause, effective := f.stopEffective, inForce := !ahead f.stopEffective s.slots.cycle } })).post
        .stopClaim (stationNumber k) cause.code f.stopEffective
    let settled : Prop := r.pendingHold = some (f.hold, f.holdEffective) ∨ (r.pendingHold = none ∧ f.hold = r.hold)
    (f.stopCause = none → s.takeStopPart f = s.setRecord k (some { r with stop := none })) ∧
    (∀ cause, f.stopCause = some cause →
      ((∃ h, r.stop = some h ∧ h.cause = cause ∧ h.effective = f.stopEffective) → s.takeStopPart f = s) ∧
      ((∀ h, r.stop = some h → h.cause ≠ cause ∨ h.effective ≠ f.stopEffective) →
        s.takeStopPart f = if ahead f.stopEffective s.slots.cycle then first cause else (first cause).lateStop)) ∧
    (settled → s.takeHoldPart f = s) ∧
    (¬ settled → ahead f.holdEffective s.slots.cycle = true →
      s.takeHoldPart f = s.setRecord k (some { r with pendingHold := some (f.hold, f.holdEffective) })) ∧
    (¬ settled → ahead f.holdEffective s.slots.cycle = false →
      (f.hold = r.hold → s.takeHoldPart f = s.setRecord k (some { r with pendingHold := none })) ∧
      (f.hold ≠ r.hold →
        s.takeHoldPart f = (s.setRecord k (some { r with hold := f.hold, pendingHold := none })).raise .missedChange))

/-- The claims of a new cycle (R51, R60, R64, R65): a stop claim is effective exactly where the own one or one of the view is in force or falls
due at the new cycle; a hold is set exactly where one is current once the changes falling due have been made. -/
def Obligations.ClaimsCountFromTheirEffectiveCycle : Prop :=
  ∀ (new : Cycle) (u : ClaimUnit),
    ((claimsBoundary new u).stopEffective = true ↔
      (∃ k, u.stop = some k ∧ (k.inForce = true ∨ k.effective = some new)) ∨
      ∃ (i : Station) (r : ClaimRecord) (h : HeardStop), u.view[i] = some r ∧ r.stop = some h ∧ (h.inForce = true ∨ h.effective = new)) ∧
    ((claimsBoundary new u).holdSet = true ↔
      (if u.announcedEffective = some new then u.announced else u.currentHold) = true ∨
      ∃ (i : Station) (r : ClaimRecord), u.view[i] = some r ∧
        (r.pendingHold = some (true, new) ∨ r.hold = true ∧ r.pendingHold ≠ some (false, new)))

/-! ## The section follower -/

/-- REPORT (R136, R147, R148, R158): the report is held and the report-miss count becomes 0; the origin is latched on a MEMBER whose last
publication runs and whose origin is unlatched; DRIVE_READY 0 on a running MEMBER record raises DRIVE_FAULT; the body is the setpoint record
once the report has been taken. That the request's command takes in its owner's work is the model's reading (log entry 6). -/
def Obligations.ReportIsHeldAndAnswered : Prop :=
  ∀ (p : Position) (flags : Byte) (s : State), s.takesTransaction = true →
    let ready := flags.getLsbD 0
    let latches : Prop := s.life.state = .member ∧ s.follower.origin = none ∧ s.reference.lastPublished ≠ .stopped
    let held : Follower := { s.follower with held := some (p, ready) }
    let latched : Follower := { held with origin := some p, record := { held.record with originLatched := true } }
    let fault : Prop := ready = false ∧ s.life.state = .member ∧ s.reference.record.ramp ≠ .stopped
    ∃ t, exec (.report p flags) s = .next t ∧ (latches → t.follower = latched) ∧ (¬ latches → t.follower = held) ∧
      t.port = { (s.answered 0x30 .ok (setpointBody t.follower.record)).port with missCount := 0 } ∧
      (fault → t.claims = (s.raise .driveFault).claims ∧ t.notices = (s.raise .driveFault).notices) ∧
      (¬ fault → t.claims = s.claims ∧ t.notices = s.notices) ∧
      t = { s with follower := t.follower, port := t.port, claims := t.claims, notices := t.notices }

/-- The follower's work at a publication (R138, R139, R141 to R143, R146). One that carries START first resets the loop and unlatches the origin, and
keeps a held report (R140; the lag hold, which R145 has clear there, is cleared). Then comes the work of any other publication: the feed-forward with
its remainder, the loop update where the origin is latched and a report is held, the clamped setpoint, the stopped values, the lag detector's counts
(R145, up to N, where LAG_HOLD takes them), and the setpoint record. That a count stays at N until LAG_HOLD takes it is the model's reading (log entry
8), and so is that a publication before LAG_HOLD counts on from there. -/
def Obligations.FollowerComputesTheSetpoint : Prop :=
  (∀ (cfg : ConfigRecord) (r : LineRecord) (c : Cycle) (f : Follower),
    followerPublish cfg r c true f = followerPublish cfg r c false { f with
      rs := 0, rem := 0, e := 0, ef := 0, integral := 0, trim := 0, overCount := 0, underCount := 0, lagHold := false, origin := none } ∧
    (r.s = 0 → r.ramp ≠ .stopped → let g := followerPublish cfg r c true f
      g.f = 0 ∧ g.rs = 0 ∧ g.trim = 0 ∧ g.setpoint = 0 ∧ g.origin = none ∧ g.lagHold = false)) ∧
  ∀ (cfg : ConfigRecord) (r : LineRecord) (c : Cycle) (f : Follower),
    let g := followerPublish cfg r c false f
    let q := r.s.toNat * cfg.draw.toNat + f.rem
    g.held = none ∧ g.origin = f.origin ∧
    g.record = { cycle := c, ramp := r.ramp, member := true, permit := decide (r.ramp ≠ .stopped), lagHold := g.lagHold,
                 originLatched := g.origin.isSome, setpoint := g.setpoint, f := g.f, trim := g.trim, ef := g.ef, s := r.s } ∧
    (r.ramp = .stopped → g.f = 0 ∧ g.e = 0 ∧ g.ef = 0 ∧ g.integral = 0 ∧ g.trim = 0 ∧ g.rem = 0 ∧ g.setpoint = 0 ∧ g.rs = f.rs) ∧
    (r.ramp ≠ .stopped → g.f = q / 16384 ∧ g.rem = q % 16384 ∧ g.rs = f.rs + BitVec.ofNat 32 (q / 16384) ∧
      (g.setpoint : Int) = max 0 (min (cfg.ssMax.toNat : Int) (g.f + g.trim)) ∧
      (f.origin = none ∨ f.held = none → g.e = f.e ∧ g.ef = f.ef ∧ g.integral = f.integral ∧ g.trim = f.trim) ∧
      ∀ origin p ready, f.origin = some origin → f.held = some (p, ready) →
        g.e = max (-8388607) (min 8388607 (g.rs - (p - origin)).toInt) ∧
        g.ef = f.ef + (cfg.kf.toNat * (g.e - f.ef)) / 32768 ∧
        g.integral = max (-(cfg.imax.toNat : Int)) (min cfg.imax.toNat (f.integral + (cfg.ki.toNat * g.e) / 256)) ∧
        g.trim = max (-(cfg.trimMax.toNat : Int)) (min cfg.trimMax.toNat ((cfg.kp.toNat * g.e) / 256 + g.integral))) ∧
    (r.ramp = .stopped ∨ r.ramp = .stopping → g.lagHold = false ∧ g.overCount = 0 ∧ g.underCount = 0) ∧
    (r.ramp.free = true → g.lagHold = f.lagHold ∧
      (f.origin = none ∨ f.held = none → g.overCount = f.overCount ∧ g.underCount = f.underCount) ∧
      (f.origin ≠ none → f.held ≠ none →
        (f.lagHold = false → g.underCount = f.underCount ∧
          g.overCount = if cfg.lagLimit.toNat < g.ef.natAbs then min (f.overCount + 1) cfg.lagCount.toNat else 0) ∧
        (f.lagHold = true → g.overCount = f.overCount ∧
          g.underCount = if g.ef.natAbs < cfg.lagRelease.toNat then min (f.underCount + 1) cfg.lagCount.toNat else 0)))

/-! ## The line reference -/

/-- The advance (R5, R6, R7, Table 1-3): the position gains the ending cycle's speed, modulo 2^32, in every ramp state, and the speed is brought
forward by the ramp state, with the ramp step a and the stop step d. Then the stop step, the commits and the hold step (R8, R10 to R13). -/
def Obligations.TheFourStepsFollowTheirTables : Prop :=
  (∀ (a d : Speed) (new : Cycle) (r : LineRecord),
     let x := advance a d new r
     x.p = r.p + r.s.setWidth 32 ∧ x.epoch = r.epoch ∧ (r.ramp ≠ .stopping → x.stoppedSince = r.stoppedSince ∧ x.t = r.t) ∧
     (r.ramp = .stopped → x.s = 0 ∧ x.ramp = .stopped) ∧
     (r.ramp = .steady ∨ r.ramp = .held → x.s = r.s ∧ x.ramp = r.ramp) ∧
     (r.ramp = .ramping → x.ramp = (if x.s = r.t then .steady else .ramping) ∧
       (r.s.toNat ≤ r.t.toNat → x.s.toNat = min (r.s.toNat + a.toNat) r.t.toNat) ∧
       (r.t.toNat ≤ r.s.toNat → x.s.toNat = max (r.s.toNat - a.toNat) r.t.toNat)) ∧
     (r.ramp = .stopping → x.s.toNat = r.s.toNat - d.toNat ∧
       (r.s.toNat ≤ d.toNat → x.ramp = .stopped ∧ x.t = 0 ∧ x.stoppedSince = new) ∧
       (d.toNat < r.s.toNat → x.ramp = .stopping ∧ x.t = r.t ∧ x.stoppedSince = r.stoppedSince))) ∧
  (∀ (r : LineRecord) (target : Speed),
     (∀ effective, stopStep effective r =
       if effective = true ∧ r.ramp ≠ .stopped then { r with ramp := .stopping, t := 0 } else r) ∧
     (∀ effective, commitStep effective .start target r =
       if r.ramp = .stopped ∧ effective = false then { r with ramp := .ramping, s := 0, t := target, p := 0, epoch := r.epoch + 1 }
       else r) ∧
     (∀ effective, (r.ramp = .stopped ∨ r.ramp = .stopping → commitStep effective .rampTo target r = r) ∧
       (r.ramp = .held → commitStep effective .rampTo target r = { r with t := target, epoch := r.epoch + 1 }) ∧
       (r.ramp = .ramping ∨ r.ramp = .steady → commitStep effective .rampTo target r =
         { r with t := target, epoch := r.epoch + 1, ramp := if r.s = target then .steady else .ramping })) ∧
     (r.ramp = .stopped ∨ r.ramp = .stopping → ∀ hold, holdStep hold r = r) ∧
     (r.ramp = .ramping ∨ r.ramp = .steady → holdStep true r = { r with ramp := .held } ∧ holdStep false r = r) ∧
     (r.ramp = .held → holdStep true r = r ∧ holdStep false r = { r with ramp := if r.s = r.t then .steady else .ramping }))

/-- The four steps of a boundary come in the order of R4: the advance, the stop step, the due commits one at a time in the order given, each on the
record as the one before left it and reported APPLIED or SUPERSEDED (R10), and the hold step. Of the commits applied the publication carries START
if one was, else the last (R14). The four steps keep the relations of R3, whatever claims count and whatever commits fall due, where every commit's
target lies in 1..Smax (R11, R24). -/
def Obligations.FourStepsComeInOrderAndKeepTheRelations : Prop :=
  (∀ (a d : Speed) (new : Cycle) (stop hold : Bool) (due : List DueCommit) (r : LineRecord),
     let commits (l : List DueCommit) : LineRecord :=
       l.foldl (fun x c => commitStep stop c.kind c.target x) (stopStep stop (advance a d new r))
     let result := bringForward a d new stop hold due r
     result.1 = holdStep hold (commits due) ∧ result.2.map (·.1) = due ∧
     ∀ before c after, due = before ++ c :: after → ∃ applied outcomes, result.2 = outcomes ++ (c, applied) :: result.2.drop (before.length + 1) ∧
       outcomes.length = before.length ∧
       (c.kind = .start → applied = decide ((commits before).ramp = .stopped ∧ stop = false)) ∧
       (c.kind = .rampTo → applied = (commits before).ramp.free)) ∧
  (∀ outcomes : List (DueCommit × Bool),
     let applied (kind : OfferKind) : Prop := ∃ x ∈ outcomes, x.2 = true ∧ x.1.kind = kind
     (applied .start → publishedCommit outcomes = some .start) ∧
     (¬ applied .start → applied .rampTo → publishedCommit outcomes = some .rampTo) ∧
     (¬ applied .start → ¬ applied .rampTo → publishedCommit outcomes = none)) ∧
  (∀ (smax : Nat) (a d : Speed) (new : Cycle) (stop hold : Bool) (due : List DueCommit) (r : LineRecord),
     RecordOk smax r → (∀ c ∈ due, 1 ≤ c.target.toNat ∧ c.target.toNat ≤ smax) →
     RecordOk smax (bringForward a d new stop hold due r).1)

/-- The due commits (R10, R22): one for each entry, own or other, that is COMMITTED with the new cycle as effective cycle, in strictly ascending
order of origin. -/
def Obligations.DueCommitsAscendByOrigin : Prop :=
  ∀ (s : State) (new : Cycle), AgreementOk s →
    (s.dueCommits new).Pairwise (fun a b => a.origin < b.origin) ∧
    ∀ c : DueCommit, c ∈ s.dueCommits new ↔
      (∃ e b n, s.agreement.own = some e ∧ e.phase = .committed b new n ∧
        c = { origin := s.own, kind := e.kind, target := e.target }) ∨
      ∃ e ∈ s.agreement.others, e.effective = some new ∧ c = { origin := e.origin, kind := e.kind, target := e.target }

/-- The reference part of a member's frame at a MEMBER (R16, R18, R19, Table 1-5), and the late stop (R17): the snap, then the comparison, which
raises DIVERGENCE at the first mismatch of a cycle, for a MEMBER sender, where both run freely or one is STOPPED and the other runs freely. The
snap sets S to a stopping or stopped sender's lower S while the own record is STOPPING, and in any other case changes nothing. -/
def Obligations.ReferencePartSnapsAndCompares : Prop :=
  ((∀ (s : State) (f : Frame),
     let r := snap f.reference s.reference.record
     let x := f.reference
     let both : Prop := (r.ramp.free = true ∧ x.ramp.free = true) ∨ (r.ramp = .stopped ∧ x.ramp.free = true) ∨
       (r.ramp.free = true ∧ x.ramp = .stopped)
     let equal : Prop := x.ramp = r.ramp ∧ x.t = r.t ∧ x.s = r.s ∧ x.pLow = r.p.setWidth 16 ∧ x.epoch = r.epoch ∧
       f.members = s.memberSet
     let mismatch : Prop := f.state = .member ∧ both ∧ ¬ equal ∧ s.reference.divergence = false
     (¬ mismatch → s.takeReferencePart f = { s with reference := { s.reference with record := r } }) ∧
     (mismatch → s.takeReferencePart f =
       { s with reference := { s.reference with record := r, divergence := true } }.raise .divergence)) ∧
   ∀ s : State,
     (s.life.state = .member → s.reference.record.ramp.free = true → s.lateStop =
       { s with reference := { s.reference with record := { s.reference.record with ramp := .stopping, t := 0 } } }) ∧
     (s.life.state ≠ .member ∨ s.reference.record.ramp = .stopped ∨ s.reference.record.ramp = .stopping → s.lateStop = s)) ∧
  (∀ (f : ReferencePart) (r : LineRecord),
     (r.ramp = .stopping → (f.ramp = .stopping ∨ f.ramp = .stopped) → f.s.toNat < r.s.toNat → snap f r = { r with s := f.s }) ∧
     (¬ (r.ramp = .stopping ∧ (f.ramp = .stopping ∨ f.ramp = .stopped) ∧ f.s.toNat < r.s.toNat) → snap f r = r))

/-! ## The line bus -/

/-- TRANSMIT_OFFSET, TRANSMIT_END and COLLISION (R123, R124, R125): BDE is asserted and the assembled frame's characters begin, a frame in
receipt being abandoned; at the end, or after the character in collision, BDE falls, BTX rests at 1 and the assembled frame is gone; a whole
frame zeroes the collision count, and a collision raises it, at most to 3. A count of 3 makes the station ISOLATED (R102, R125) by the command
BUS_FAULT: that it stays at 3, and the station in its state, until then is the model's reading (log entry 8). -/
def Obligations.TransmissionBeginsAndEnds : Prop :=
  ∀ s : State, s.inReset = false →
    (∀ a, s.assembled = some a → s.life.state.transmits = true → s.bus.transmit = .idle →
      exec .transmitOffset s = .next { s with bus := { s.bus with
        transmit := .sending (frameCharacters a.frame), bde := true, btxIdle := false, receipt := none } } ∧
      (frameCharacters a.frame).map (·.data) = frameBytes a.frame ∧
      (frameCharacters a.frame).map (·.mark) = true :: List.replicate ((frameBytes a.frame).length - 1) false) ∧
    (s.assembled = none ∨ s.life.state.transmits = false ∨ s.bus.transmit ≠ .idle → exec .transmitOffset s = .next s) ∧
    (∀ characters, s.bus.transmit = .sending characters →
      exec .transmitEnd s = .next { s with
        assembled := none
        bus := { s.bus with transmit := .idle, bde := false, btxIdle := true, collisions := 0 } } ∧
      exec .collision s = .next { s with
        assembled := none
        bus := { s.bus with transmit := .idle, bde := false, btxIdle := true, collisions := min (s.bus.collisions + 1) 3 } }) ∧
    (s.bus.transmit = .idle → exec .transmitEnd s = .next s ∧ exec .collision s = .next s)

/-- CHARACTER_RECEIVED, GAP and FRAME_ABANDONED (R122, R128, R129): mark 1 begins a frame wherever it is found; mark 0 is added to the frame
in receipt, or discarded with none; at the expected length the end time is recorded and the CRC decides; a gap abandons a frame that has not
reached its length, and the failures of Table 7-4 abandon one that they apply to. Nothing else changes. When the CRC is checked, and which
reasons apply to which frame in receipt, is the model's reading (log entry 12). -/
def Obligations.CharactersBuildTheFrameInReceipt : Prop :=
  ∀ s : State, s.inReset = false →
    let receives : Prop := s.life.state ≠ .unconfigured ∧ s.bus.transmit = .idle
    let with' (r : Option Receipt) : State := { s with bus := { s.bus with receipt := r } }
    (¬ receives → ∀ data mark, exec (.characterReceived data mark) s = .next s) ∧
    (receives → ∀ data,
      exec (.characterReceived data true) s = .next (with' (some { bytes := [data], endTime := none })) ∧
      (s.bus.receipt = none → exec (.characterReceived data false) s = .next s) ∧
      ∀ r, s.bus.receipt = some r →
        let bytes := r.bytes ++ [data]
        let whole : Prop := 28 ≤ bytes.length ∧ bytes.length = lengthOfCounts (byteAt bytes 27)
        (r.endTime ≠ none → exec (.characterReceived data false) s = .next (with' none)) ∧
        (r.endTime = none → ¬ whole →
          exec (.characterReceived data false) s = .next (with' (some { bytes := bytes, endTime := none }))) ∧
        (r.endTime = none → whole → crcAgrees bytes = true →
          exec (.characterReceived data false) s = .next (with' (some { bytes := bytes, endTime := some s.slots.now }))) ∧
        (r.endTime = none → whole → crcAgrees bytes = false → exec (.characterReceived data false) s = .next (with' none))) ∧
    (s.bus.receipt = none → exec .gap s = .next s ∧ ∀ why, exec (.frameAbandoned why) s = .next s) ∧
    (∀ r, s.bus.receipt = some r →
      (r.endTime = none → exec .gap s = .next (with' none) ∧ exec (.frameAbandoned .headerMidFrame) s = .next (with' none)) ∧
      (r.endTime ≠ none → exec .gap s = .next s ∧ exec (.frameAbandoned .lengthFailure) s = .next (with' none)) ∧
      exec (.frameAbandoned .framingError) s = .next (with' none) ∧ exec (.frameAbandoned .ownTransmission) s = .next (with' none) ∧
      (crcAgrees r.bytes = false → exec (.frameAbandoned .crcDifference) s = .next (with' none)))

/-- RECEIVED_WHOLE where no owner takes the frame (R116, R117, R119): with none received whole nothing changes; an invalid frame, a frame at
a silent station that is not LISTENING, and at a JOINING station one that is no member frame leave the bus port, and nothing else changes.
At a MEMBER or LEAVING station, a member's frame that is not heard (R72, R73, R74): another cycle count posts CYCLE_MISMATCH once, while the
flag is clear; another digest posts nothing; no owner sees the content. Nor does an owner see a frame from outside the member set at a LEAVING
station, or a JOINING frame with the own digest and another count from outside it at a MEMBER (R75). What a frame that is not heard leaves of the entry is the model's
reading (log entry 14). -/
def Obligations.FramesThatReachNoOwner : Prop :=
  (∀ (s : State) (order : PartOrder), s.inReset = false →
     let taken : State := { s with bus := { s.bus with receipt := none } }
     ((∀ r, s.bus.receipt = some r → r.endTime = none) → exec (.receivedWhole order) s = .next s) ∧
     ∀ (r : Receipt) (e : Nat), s.bus.receipt = some r → r.endTime = some e →
       (crcAgrees r.bytes = false ∨ validFrame r.bytes = none → exec (.receivedWhole order) s = .next taken) ∧
       (s.life.state = .unconfigured ∨ s.life.state = .idle ∨ s.life.state = .isolated →
         exec (.receivedWhole order) s = .next taken) ∧
       (∀ f, crcAgrees r.bytes = true → validFrame r.bytes = some f → s.life.state = .joining → f.station ≠ s.own →
         ¬ (f.state = .member ∧ f.digest = s.digest ∧ f.cycle = s.slots.cycle) → exec (.receivedWhole order) s = .next taken) ∧
       (∀ f, crcAgrees r.bytes = true → validFrame r.bytes = some f → f.station ≠ s.own → s.isMember f.station = false →
         (s.life.state = .leaving → exec (.receivedWhole order) s = .next taken) ∧
         (s.life.state = .member → f.state = .joining → f.digest = s.digest → f.cycle ≠ s.slots.cycle →
           exec (.receivedWhole order) s = .next taken))) ∧
  (∀ (s : State) (order : PartOrder) (r : Receipt) (e : Nat) (f : Frame), s.inReset = false →
     s.life.state = .member ∨ s.life.state = .leaving →
     s.bus.receipt = some r → r.endTime = some e → crcAgrees r.bytes = true → validFrame r.bytes = some f → f.station ≠ s.own →
     s.isMember f.station = true →
     let taken : State := { s with bus := { s.bus with receipt := none } }
     let entry := s.roster.entries[f.station]
     (f.cycle ≠ s.slots.cycle → entry.cycleMismatch = true → exec (.receivedWhole order) s = .next taken) ∧
     (f.cycle ≠ s.slots.cycle → entry.cycleMismatch = false → exec (.receivedWhole order) s = .next { taken with
       roster := { s.roster with entries := s.roster.entries.set f.station { entry with cycleMismatch := true } }
       notices := s.noticesAfter [(.cycleMismatch, stationNumber f.station, 0, f.cycle)] }) ∧
     (f.cycle = s.slots.cycle → f.digest ≠ s.digest → exec (.receivedWhole order) s = .next taken))

/-- RECEIVED_WHOLE while LISTENING, of a MEMBER frame with the own digest (R94, R132, R20, R40, R96): the station becomes JOINING, the slot timer
adopts the sender's slot start and cycle count, the observed view is refreshed, the offer recorded, and a set that holds the own number is the
admitting set. -/
def Obligations.AMemberFrameIsAdopted : Prop :=
  ∀ (s : State) (order : PartOrder) (r : Receipt) (e : Nat) (f : Frame), s.inReset = false → s.life.state = .listening →
    s.bus.receipt = some r → r.endTime = some e → crcAgrees r.bytes = true → validFrame r.bytes = some f →
    f.station ≠ s.own → f.state = .member → f.digest = s.digest → s.agreement.others = [] →
    ∃ t timing, exec (.receivedWhole order) s = .next t ∧ t.life.state = .joining ∧ t.life.listenTimer = none ∧ t.life.quiet = 0 ∧
      t.life.joiningSince = none ∧ t.life.joinHeard = true ∧
      t.life.admitting = (if contains f.members s.own = true then some f.members else none) ∧
      t.slots = { s.slots with timing := some timing, cycle := f.cycle, atBoundary := false } ∧
      timing.slotStart s.cfg.slotLength.toNat f.station = (e : Int) - frameMicros s.cfg.rateCode r.bytes.length - 8 ∧
      timing.currentSlot = f.station ∧ (∀ j : Station, contains timing.closesRaised j = decide (j.val < f.station.val)) ∧
      timing.ownStartRaised = decide (s.own.val < f.station.val) ∧
      t.reference.record = LineRecord.reset ∧ t.reference.view = viewOf f.reference ∧ t.reference.viewCycle = f.cycle ∧
      t.agreement.own = s.agreement.own ∧
      t.agreement.others.map (fun o => (o.origin, o.serial, o.kind, o.target, o.verdict)) =
        f.offer.toList.map (fun o => (f.station, o.serial, o.kind, o.target, none)) ∧
      t.notices = (s.atCycle f.cycle).noticesAfter [stationStateNotice .joining .listening] ∧ t.claims = s.claims ∧
      t.bus = { s.bus with receipt := none } ∧ t.roster = s.roster ∧ t.port = s.port ∧ t.store = s.store

/-- RECEIVED_WHOLE of another number's frame at a LISTENING station, the other rows of Table 5-3 (R93): a MEMBER frame with another digest restarts
the window and posts CONFIG_MISMATCH once for each sender; a JOINING or LEAVING frame with the own digest restarts the window; with another digest it
has no effect. At a JOINING station a member frame (R20, R96, R119) re-aligns the timer, refreshes the observed view if it is the first of the cycle,
may be the admitting frame if none was, and its offer or decision is recorded. -/
def Obligations.FramesHeardBeforeMembership : Prop :=
  ∀ (s : State) (order : PartOrder) (r : Receipt) (e : Nat) (f : Frame), WholeFrame s r e f →
    let taken := s.frameTaken
    let restarted : LifeCycle := { s.life with listenTimer := some (32 * s.cfg.slotLength.toNat) }
    (s.life.state = .listening →
      (f.state = .member → f.digest ≠ s.digest →
        (contains s.life.mismatchReported f.station = true → exec (.receivedWhole order) s = .next { taken with life := restarted }) ∧
        (contains s.life.mismatchReported f.station = false → exec (.receivedWhole order) s = .next { taken with
          life := { restarted with mismatchReported := setInsert s.life.mismatchReported f.station }
          notices := s.noticesAfter [(.configMismatch, stationNumber f.station, 0, f.digest)] })) ∧
      (f.state ≠ .member → f.digest = s.digest → exec (.receivedWhole order) s = .next { taken with life := restarted }) ∧
      (f.state ≠ .member → f.digest ≠ s.digest → exec (.receivedWhole order) s = .next taken)) ∧
    (s.life.state = .joining → f.state = .member → f.digest = s.digest → f.cycle = s.slots.cycle →
      let aligned := taken.realign f.station e r.bytes.length
      exec (.receivedWhole order) s = .next { aligned with
        reference := if s.life.joinHeard = true then s.reference
          else { s.reference with view := viewOf f.reference, viewCycle := s.slots.cycle }
        life := { s.life with
          joinHeard := true
          admitting := if s.life.admitting = none ∧ contains f.members s.own = true then some f.members else s.life.admitting }
        agreement := (s.takeProposalParts f).agreement })

/-- RECEIVED_WHOLE of a MEMBER or LEAVING frame from a member, with the own count and digest (R72 step 4, R118): the timer re-aligns (R120); the frame
counts as heard, in its sender's slot, its cycle and digest are kept, the cycle-mismatch flag is cleared, and a LEAVING frame sets the leave due cycle
if none is set (R79). At a MEMBER it is evidence against exclusion (R98), and the owners take its parts: the stop part before the hold part (R63) and
the reference part, these two and the agreement part in the order that the command says (the model's choice, log entry 11; so is that the stop part
precedes the reference part where it calls for no late stop, which R118 leaves open). At a LEAVING station the agreement unit alone takes its part. -/
def Obligations.HeardFramesReachTheirOwners : Prop :=
  ∀ (s : State) (order : PartOrder) (r : Receipt) (e : Nat) (f : Frame), WholeFrame s r e f → s.isMember f.station = true →
    f.cycle = s.slots.cycle → f.digest = s.digest → f.state ≠ .joining →
    let aligned := s.frameTaken.realign f.station e r.bytes.length
    let entry := aligned.roster.entries[f.station]
    let heard := aligned.heardAs f.station { entry with
      lastHeard := s.slots.cycle, digestHeard := f.digest, cycleMismatch := false,
      leaveDue := if f.state = .leaving then some (entry.leaveDue.getD (s.slots.cycle + 2)) else entry.leaveDue } true
    (s.life.state = .leaving → exec (.receivedWhole order) s = .next (heard.takeAgreementPart f)) ∧
    (s.life.state = .member →
      let seen : State := { heard with life := { s.life with
        memberHeard := true, ownSeen := s.life.ownSeen || contains f.members s.own, firstSet := some (s.life.firstSet.getD f.members) } }
      let stop (t : State) : State := t.takeStopPart f
      let hold (t : State) : State := t.takeHoldPart f
      let reference (t : State) : State := t.takeReferencePart f
      let agreement (t : State) : State := t.takeAgreementPart f
      let parts := (if order.referenceFirst = true then [stop, reference, hold] else [stop, hold, reference]).insertIdx
        order.agreementPlace.val agreement
      exec (.receivedWhole order) s = .next (parts.foldl (fun t part => part t) seen))

/-- RECEIVED_WHOLE of a JOINING frame with the own count and digest at a MEMBER or LEAVING station. From a member with the joining-since recorded it
is heard (R80); that it then ends a cycle mismatch is the model's reading (log entry 14). From a member with another one the sender has restarted:
removed with reason RESTARTED (R78), CANDIDATE, PEER_RESTARTED after MEMBER_REMOVED, MEMBER_LOST where the line runs; an own OFFERED entry loses its
verdict (R45). From outside the set, at a MEMBER, the entry becomes CANDIDATE with CANDIDATE_HEARD, unless it was one (R81). At a MEMBER whose record
is STOPPED the admission test of R82 follows. -/
def Obligations.JoiningFramesMakeCandidates : Prop :=
  ∀ (s : State) (order : PartOrder) (r : Receipt) (e : Nat) (f : Frame), WholeFrame s r e f → f.state = .joining →
    f.cycle = s.slots.cycle → f.digest = s.digest → s.life.state = .member ∨ s.life.state = .leaving →
    let k := f.station
    let aligned := s.frameTaken.realign k e r.bytes.length
    let entry := aligned.roster.entries[k]
    let heardEntry : RosterEntry := { entry with
      lastHeard := s.slots.cycle, digestHeard := f.digest, restartCause := f.restartCause, joiningSince := some f.joiningSince,
      joiningClaims := some { stop := f.stopCause.map fun cause => (cause, f.stopEffective), hold := f.hold, holdEffective := f.holdEffective } }
    let tested (t : State) : State :=
      if s.life.state = .member ∧ s.reference.record.ramp = .stopped then t.admissionTest k f.joiningSince else t
    (s.isMember k = true → entry.joiningSince = some f.joiningSince →
      exec (.receivedWhole order) s = .next (aligned.heardAs k { heardEntry with cycleMismatch := false } true)) ∧
    (s.isMember k = true → entry.joiningSince ≠ some f.joiningSince →
      let removed : OwnNotice := (.memberRemoved, stationNumber k, RemovalReason.restarted.code, setRemove s.memberSet k)
      let restarted : OwnNotice := (.peerRestarted, stationNumber k, codeOr0 RestartCause.code f.restartCause, f.joiningSince)
      ∃ t : State, exec (.receivedWhole order) s = .next (tested t) ∧
        t = { aligned.heardAs k { heardEntry with state := .candidate, admissionDue := none, leaveDue := none, cycleMismatch := false } true with
              agreement := t.agreement, claims := t.claims, notices := t.notices } ∧
        t.agreement.others = s.agreement.others.filter (fun e => decide (e.origin ≠ k)) ∧ t.claims.view = s.claims.view.set k none ∧
        VerdictDropped k s.agreement.own t.agreement.own ∧ t.agreement.serial = s.agreement.serial ∧
        (s.life.state = .leaving ∨ s.reference.record.ramp = .stopped → t.claims.stop = s.claims.stop ∧
          t.notices = s.noticesAfter [removed, restarted]) ∧
        (s.life.state = .member → s.reference.record.ramp ≠ .stopped → t.claims.stop.isSome = true ∧
          (s.claims.stop = none → t.claims.stop.map (·.cause) = some .memberLost ∧
            t.notices = s.noticesAfter [removed, (.stopClaim, stationNumber s.own, StopCause.memberLost.code, 0), restarted]))) ∧
    (s.isMember k = false → s.life.state = .member →
      let candidate := aligned.heardAs k { heardEntry with
        state := .candidate
        admissionDue := if entry.joiningSince = some f.joiningSince then entry.admissionDue else none } true
      exec (.receivedWhole order) s = .next (tested { candidate with
        notices := if entry.state = .candidate then s.notices
          else s.noticesAfter [(.candidateHeard, stationNumber k, codeOr0 RestartCause.code f.restartCause, f.joiningSince)] }))

/-- RECEIVED_WHOLE at a MEMBER of a frame from outside the member set (R75 steps 1 and 4, R120): another digest makes the entry MISMATCH, with
CONFIG_MISMATCH unless it was; a MEMBER or LEAVING frame with the own digest makes it FOREIGN, and the life-cycle controller applies the island rule
(R99). Either counts as heard whatever its count, in its sender's slot where that is the current one; neither re-aligns the timer, but for the adoption
of a winner's timing. -/
def Obligations.FramesFromOutsideTheSet : Prop :=
  ∀ (s : State) (order : PartOrder) (r : Receipt) (e : Nat) (f : Frame), WholeFrame s r e f → s.life.state = .member →
    s.isMember f.station = false →
    let k := f.station
    let entry := s.roster.entries[k]
    let heardEntry : RosterEntry := { entry with lastHeard := s.slots.cycle, digestHeard := f.digest }
    let inItsSlot := decide (s.slots.timing.map (·.currentSlot) = some k)
    let outside (state : EntryState) : State :=
      s.frameTaken.heardAs k { heardEntry with state := state, admissionDue := none, joiningClaims := none } inItsSlot
    (f.digest ≠ s.digest → entry.state = .mismatch →
      exec (.receivedWhole order) s = .next (s.frameTaken.heardAs k heardEntry inItsSlot)) ∧
    (f.digest ≠ s.digest → entry.state ≠ .mismatch →
      exec (.receivedWhole order) s = .next { outside .mismatch with
        notices := s.noticesAfter [(.configMismatch, stationNumber k, 0, f.digest)] }) ∧
    (f.digest = s.digest → f.state ≠ .joining → entry.state = .foreign →
      exec (.receivedWhole order) s = .next ((s.frameTaken.heardAs k heardEntry inItsSlot).islandRule f e r.bytes.length)) ∧
    (f.digest = s.digest → f.state ≠ .joining → entry.state ≠ .foreign →
      exec (.receivedWhole order) s = .next ((outside .foreign).islandRule f e r.bytes.length))

/-- RECEIVED_WHOLE of a valid frame that bears the own number (R101, Table 5-4): LISTENING, JOINING and LEAVING become IDLE, MEMBER becomes
ISOLATED with cause DUPLICATE, and DUPLICATE_STATION is posted before STATION_STATE. The order of two blocks' notices is the model's choice
(log entry 5). An assembled frame not yet begun is discarded too (log entry 13). -/
def Obligations.TheOwnNumberHeardIsADuplicate : Prop :=
  ∀ (s : State) (order : PartOrder) (r : Receipt) (e : Nat) (f : Frame), s.inReset = false →
    s.bus.receipt = some r → r.endTime = some e → crcAgrees r.bytes = true → validFrame r.bytes = some f → f.station = s.own →
    let taken : State := { s with bus := { s.bus with receipt := none } }
    let duplicate (entered : StationState) : OwnNotice := (.duplicateStation, stationNumber s.own, entered.code, f.cycle)
    (s.life.state = .listening → exec (.receivedWhole order) s = .next { taken with
      life := { s.life with state := .idle, listenTimer := none }
      follower := { s.follower with held := none }
      notices := s.noticesAfter [duplicate .idle, stationStateNotice .idle .listening] }) ∧
    (s.life.state = .joining ∨ s.life.state = .leaving → ∃ t, exec (.receivedWhole order) s = .next t ∧ SilentExit taken t ∧
      t.life.state = .idle ∧ t.life.isolation = s.life.isolation ∧ t.life.listenTimer = none ∧ t.port = s.port.countCleared ∧
      t.notices = (s.atCycle 0).noticesAfter (duplicate .idle :: stationStateNotice .idle s.life.state ::
        discardNotices s.agreement.own)) ∧
    (s.life.state = .member → ∃ t, exec (.receivedWhole order) s = .next t ∧ SilentExit taken t ∧
      t.life.state = .isolated ∧ t.life.isolation = some .duplicate ∧ t.life.listenTimer = none ∧ t.port = s.port.countCleared ∧
      t.notices = (s.atCycle 0).noticesAfter (duplicate .isolated :: stationStateNotice .isolated .member ::
        discardNotices s.agreement.own)) ∧
    (s.life.state = .unconfigured ∨ s.life.state = .idle ∨ s.life.state = .isolated → exec (.receivedWhole order) s = .next taken)

/-- The admission test of R82 on a JOINING frame taken while the record is STOPPED: the due cycle is two past the later of the candidate's
joining-since and the own stopped-since, the later being the one less far back; one ahead is stored, and one reached admits at once (R84), with
MEMBER_ADDED and a claim view record made from the joining claims (R61). At a publication (R79, R83) a member whose departure is due is removed, an
own OFFERED entry loses its verdict (R45), and where the record of a MEMBER is not STOPPED the removal raises the own stop claim with cause
MEMBER_LOST, its notice after MEMBER_REMOVED (R78, the note to R79). A candidate whose admission is due is admitted where the published ramp state is
STOPPED, or keeps its place without the due cycle. What a departed entry keeps is the model's reading (log entry 15). -/
def Obligations.AdmissionsAndDeparturesFallDue : Prop :=
  (∀ (s : State) (k : Station) (since : Cycle), k ≠ s.own →
    let c := s.slots.cycle
    let stopped := s.reference.record.stoppedSince
    let entry := s.roster.entries[k]
    let t := s.admissionTest k since
    ∃ later : Cycle, (later = since ∨ later = stopped) ∧ (c - later).toNat ≤ (c - since).toNat ∧
      (c - later).toNat ≤ (c - stopped).toNat ∧
      (ahead (later + 2) c = true → t = s.setEntry k { entry with admissionDue := some (later + 2) }) ∧
      (ahead (later + 2) c = false →
        t.roster.entries = s.roster.entries.set k { entry with state := .member, admissionDue := none } ∧
        t.isMember k = true ∧ t.claims.view = s.claims.view.set k (some (claimsAtAdmission entry c)) ∧
        (∀ j : Station, j ≠ k → t.isMember j = s.isMember j) ∧
        (s.notices.queue.length + 2 ≤ 24 →
          { kind := .memberAdded, cycle := c, station := stationNumber k, detail := 1, value := t.memberSet } ∈ t.notices.queue))) ∧
  ∀ (s : State) (k : Station), k ≠ s.own →
    let c := s.slots.cycle
    let entry := s.roster.entries[k]
    let t := s.rosterPublication k
    let departs : Prop := entry.state = .member ∧ entry.leaveDue = some c
    let admitted : Prop := entry.state = .candidate ∧ entry.admissionDue = some c
    (¬ departs → ¬ admitted → t = s) ∧
    (departs → t.roster.entries = s.roster.entries.set k
        { entry with state := .absent, missed := 0, leaveDue := none, joiningSince := none, cycleMismatch := false } ∧
      t.isMember k = false ∧ t.claims.view = s.claims.view.set k none ∧
      t.agreement.others = s.agreement.others.filter (fun e => decide (e.origin ≠ k)) ∧
      VerdictDropped k s.agreement.own t.agreement.own ∧ t.agreement.serial = s.agreement.serial ∧
      let removed : State :=
        { s with notices := s.noticesAfter [(.memberRemoved, stationNumber k, RemovalReason.left.code, t.memberSet)] }
      (s.life.state ≠ .member ∨ s.reference.record.ramp = .stopped → t.claims.stop = s.claims.stop ∧ t.notices = removed.notices) ∧
      (s.life.state = .member → s.reference.record.ramp ≠ .stopped →
        t.claims.stop = (s.raise .memberLost).claims.stop ∧ t.notices = (removed.raise .memberLost).notices)) ∧
    (admitted → s.reference.lastPublished = .stopped →
      t.roster.entries = s.roster.entries.set k { entry with state := .member, admissionDue := none } ∧
      t.isMember k = true ∧ t.claims.view = s.claims.view.set k (some (claimsAtAdmission entry c)) ∧
      (∀ cause effective, (entry.joiningClaims.bind (·.stop)) = some (cause, effective) → t.notices = s.noticesAfter
        [(.memberAdded, stationNumber k, 0, t.memberSet), (.stopClaim, stationNumber k, cause.code, effective)]) ∧
      (entry.joiningClaims.bind (·.stop) = none → t.notices = s.noticesAfter [(.memberAdded, stationNumber k, 0, t.memberSet)])) ∧
    (admitted → s.reference.lastPublished ≠ .stopped → t = s.setEntry k { entry with admissionDue := none })

/-- The island rule (R99, R100) on a foreign MEMBER or LEAVING frame at a MEMBER station. A line running on either side raises FOREIGN_ISLAND and the
station stays MEMBER, with its notice once for each sender, after the claim's own (the model's choice, log entry 5); with both STOPPED, a MEMBER frame
whose set wins makes it JOINING by a change of kind (b), with the winner's timing and count, and takes the frame as its first member frame (R96): its
view, its offer (R40) and, where it holds the own number, its set as the admitting set. The change's notices carry the winner's count, STATION_STATE
first (the model's choice, log entry 5); an assembled frame is kept, one not yet begun too (the model's reading, log entry 13). More stations win;
with equal sizes, the set that holds the lowest station not in both; of two different sets exactly one wins. -/
def Obligations.TheIslandRuleDecides : Prop :=
  (∀ (s : State) (f : Frame) (e bytes : Nat), s.life.state = .member →
    (s.reference.record.ramp ≠ .stopped ∨ f.reference.ramp ≠ .stopped →
      (s.islandRule f e bytes).life.state = .member ∧ (s.islandRule f e bytes).slots = s.slots ∧
      (s.islandRule f e bytes).claims = (s.raise .foreignIsland).claims ∧
      (s.islandRule f e bytes).reference = s.reference ∧ (s.islandRule f e bytes).roster = s.roster ∧
      (contains s.life.islandReported f.station = true → (s.islandRule f e bytes).life = s.life ∧
        (s.islandRule f e bytes).notices = (s.raise .foreignIsland).notices) ∧
      (contains s.life.islandReported f.station = false →
        (s.islandRule f e bytes).life = { s.life with islandReported := setInsert s.life.islandReported f.station } ∧
        (s.islandRule f e bytes).notices =
          ((s.raise .foreignIsland).post .foreignIsland (stationNumber f.station) f.reference.ramp.code f.members).notices)) ∧
    (s.reference.record.ramp = .stopped → f.reference.ramp = .stopped →
      (f.state ≠ .member ∨ setWins s.memberSet f.members = true → s.islandRule f e bytes = s) ∧
      (f.state = .member → setWins s.memberSet f.members = false →
        MembershipExit s (s.islandRule f e bytes) ∧ (s.islandRule f e bytes).slots.cycle = f.cycle ∧
        (s.islandRule f e bytes).reference.view = viewOf f.reference ∧ (s.islandRule f e bytes).reference.viewCycle = f.cycle ∧
        (s.islandRule f e bytes).slots.timing = some (adoptedTiming s.own f.station (slotStartOf s.cfg.rateCode e bytes)) ∧
        (s.islandRule f e bytes).life.joinHeard = true ∧
        (s.islandRule f e bytes).life.admitting = (if contains f.members s.own = true then some f.members else none) ∧
        (f.offer = none ∨ f.decision = none → (s.islandRule f e bytes).agreement.others = f.offer.toList.map fun o =>
          { origin := f.station, serial := o.serial, kind := o.kind, target := o.target, firstOffered := o.firstOffered,
            voters := o.voters, verdict := none, effective := none }) ∧
        (s.islandRule f e bytes).notices = (s.atCycle f.cycle).noticesAfter
          (stationStateNotice .joining .member :: discardNotices s.agreement.own)))) ∧
  ∀ a b : StationSet, a ≠ b →
    (setWins a b = true ↔ setSize b < setSize a ∨ (setSize a = setSize b ∧
      ∃ k, contains a k = true ∧ contains b k = false ∧ ∀ j, j < k → contains a j = contains b j)) ∧
    setWins a b = !setWins b a

/-! ## The slot timer's events -/

/-- The re-alignment on a heard frame of station k (R120, R130, R133, Table 7-6): the slot reference is the start of slot k computed from the frame's
end, and the current slot is k. Where the own timing was behind, the closes of the slots from the old current one to the one before k are raised at
once and counted (R76), and an own-slot start after the old current slot, up to k, is marked raised; where it was in slot k or ahead, no event is
raised or taken back. A missed count that comes to M at one of these closes stays at M, and the entry as it is, until MISSED_LIMIT (R77): that this is
a command of its own is the model's reading (log entry 8). Between re-alignments the current slot moves with the clock past each slot that is over and
whose close has been raised; that a close still to be raised holds it back is the model's choice (log entry 7). -/
def Obligations.ReAlignmentMovesTheTiming : Prop :=
  (∀ (s : State) (k : Station) (e bytes : Nat),
     (s.slots.timing = none → s.realign k e bytes = s) ∧
     ∀ timing, s.slots.timing = some timing →
       let skipped (i : Station) : Bool := decide (timing.currentSlot ≤ i) && decide (i < k)
       ∃ u, (s.realign k e bytes).slots = { s.slots with timing := some u } ∧ u.currentSlot = k ∧
         u.slotStart s.cfg.slotLength.toNat k = (e : Int) - frameMicros s.cfg.rateCode bytes - 8 ∧
         (∀ i : Station, contains u.closesRaised i = (contains timing.closesRaised i || skipped i)) ∧
         u.ownStartRaised = (timing.ownStartRaised || (decide (timing.currentSlot < s.own) && decide (s.own ≤ k))) ∧
         u.lateClose = timing.lateClose ∧
         s.realign k e bytes = { s with slots := (s.realign k e bytes).slots, roster := (s.realign k e bytes).roster } ∧
         (s.realign k e bytes).roster.heard = s.roster.heard ∧
         ∀ i : Station, (s.realign k e bytes).roster.entries[i] =
           if skipped i = true ∧ contains timing.closesRaised i = false ∧ i ≠ s.own then
             if contains s.roster.heard i = true then { s.roster.entries[i] with missed := 0 }
             else if s.roster.entries[i].state = .absent then s.roster.entries[i]
             else { s.roster.entries[i] with missed := min (s.roster.entries[i].missed + 1) s.cfg.missedLimit.toNat }
           else s.roster.entries[i]) ∧
  (∀ (t : Timing) (slotLength : Nat) (now : Int),
     let isOver (j : Station) : Prop := contains t.closesRaised j = true ∧ t.slotStart slotLength j + slotLength ≤ now
     t.passed slotLength now = { t with currentSlot := (t.passed slotLength now).currentSlot } ∧
     ∀ k : Station, t.currentSlot ≤ k → (∀ j, t.currentSlot ≤ j → j < k → isOver j) → ¬ isOver k →
       (t.passed slotLength now).currentSlot = k)

/-- SLOT_CLOSE (R131, R76): the close of a slot is raised at most once a cycle; at it a frame that was heard in the slot zeroes the missed
count of that station's entry, an empty slot counts one, up to M, for an entry that is not ABSENT, and the own entry is not touched. The
close of slot 16 that a boundary has overtaken is counted by what was heard in the ended cycle. That the event is taken whatever the clock
shows, and at most once a cycle, is the model's choice (log entry 10). A count that comes to M stays there, and its entry as it is, until MISSED_LIMIT
makes it ABSENT (R77): the model's reading (log entry 8). -/
def Obligations.SlotCloseCountsTheSlot : Prop :=
  ∀ (s : State) (k : Station) (timing : Timing), s.inReset = false → s.slots.timing = some timing →
    let entry := s.roster.entries[k]
    let counted (heard : Bool) : Roster :=
      if k = s.own then s.roster
      else if heard = true then { s.roster with entries := s.roster.entries.set k { entry with missed := 0 } }
      else if entry.state = .absent then s.roster
      else { s.roster with entries := s.roster.entries.set k { entry with missed := min (entry.missed + 1) s.cfg.missedLimit.toNat } }
    let after (timing : Timing) (heard : Bool) : State :=
      { s with slots := { s.slots with timing := some timing }, roster := counted heard }
    (∀ heard, timing.lateClose = some heard → k.val = 15 →
      exec (.slotClose k) s = .next (after { timing with lateClose := none } heard)) ∧
    (timing.lateClose = none ∨ k.val ≠ 15 →
      (contains timing.closesRaised k = true → exec (.slotClose k) s = .next s) ∧
      (contains timing.closesRaised k = false →
        ∃ u, exec (.slotClose k) s = .next (after u (contains s.roster.heard k)) ∧
          (∀ j : Station, contains u.closesRaised j = (contains timing.closesRaised j || decide (j = k))) ∧
          u.refStart = timing.refStart ∧ u.refSlot = timing.refSlot ∧ u.ownStartRaised = timing.ownStartRaised ∧
          u.lateClose = timing.lateClose ∧ (timing.currentSlot.val ≤ k.val → u.currentSlot.val = min (k.val + 1) 15)))

/-- MISSED_LIMIT (R77, R78, R45, R61): at a count of M the entry becomes ABSENT with its reset values, but for the last cycle and digest
heard. A member is removed: MEMBER_REMOVED with reason MISSED and the set after, its proposal entry, ballot places and claim view record
gone, and MEMBER_LOST raised where a MEMBER's record is not STOPPED. That a command whose condition does not stand has no effect is the
model's reading (log entry 8). What the entry keeps is the model's reading (log entry 15). -/
def Obligations.MissedLimitMakesTheEntryAbsent : Prop :=
  ∀ (s : State) (k : Station), s.inReset = false →
    let entry := s.roster.entries[k]
    let absent : RosterEntry := { state := .absent, missed := 0, lastHeard := entry.lastHeard, digestHeard := entry.digestHeard,
                                  restartCause := none, joiningSince := none, admissionDue := none, leaveDue := none,
                                  joiningClaims := none, cycleMismatch := false }
    let applies : Prop := (s.life.state = .member ∨ s.life.state = .leaving) ∧ k ≠ s.own ∧ entry.state ≠ .absent ∧
      entry.missed = s.cfg.missedLimit.toNat
    let roster : Roster := { s.roster with entries := s.roster.entries.set k absent }
    (¬ applies → exec (.missedLimit k) s = .next s) ∧
    (applies → entry.state ≠ .member → exec (.missedLimit k) s = .next { s with roster := roster }) ∧
    (applies → entry.state = .member → ∃ t, exec (.missedLimit k) s = .next t ∧
      t = { s with roster := roster, agreement := t.agreement, claims := t.claims, notices := t.notices } ∧
      (∀ j, t.isMember j = (s.isMember j && decide (j ≠ k))) ∧
      t.agreement.others = s.agreement.others.filter (fun e => decide (e.origin ≠ k)) ∧
      VerdictDropped k s.agreement.own t.agreement.own ∧
      t.agreement.serial = s.agreement.serial ∧ t.claims.view = s.claims.view.set k none ∧
      let removed : State :=
        { s with notices := s.noticesAfter [(.memberRemoved, stationNumber k, RemovalReason.missed.code, t.memberSet)] }
      (s.life.state = .member → s.reference.record.ramp ≠ .stopped → t.claims.stop.isSome = true ∧
        (s.claims.stop = none → t.claims.stop.map (·.cause) = some .memberLost) ∧
        t.claims.stop = (s.raise .memberLost).claims.stop ∧ t.notices = (removed.raise .memberLost).notices) ∧
      (s.life.state = .leaving ∨ s.reference.record.ramp = .stopped → t.claims.stop = s.claims.stop ∧ t.notices = removed.notices))

/-- CYCLE_BOUNDARY at a MEMBER station, the change of an exclusion not being taken first (R131, R1, R4, R14, R67, R98, R138): the count goes on by
one, the record is brought forward by the claims of the new cycle and the due commits, RUN_PERMIT, the follower and the report-miss count follow the
publication, and no entry due at the new cycle remains. That the change of an exclusion may come first is the command's operand (log entry 11). An
exclusion count that comes to 2 leaves the station MEMBER until EXCLUDED (R98), and a report-miss count that comes to Nrep leaves LOCAL_SILENT due, in
a field of the model's own, until its command (R148): the model's reading (log entries 8 and 22). So is that the mark is this publication's alone, one
left from the publication before being replaced (log entry 8). -/
def Obligations.AMemberBringsTheRecordForward : Prop :=
  ∀ (s : State) (timing : Timing), s.inReset = false → s.life.state = .member → s.slots.timing = some timing →
    let new := s.slots.cycle + 1
    let claims := claimsBoundary new s.claims
    let forward := bringForward s.cfg.rampStep s.cfg.stopStep new claims.stopEffective claims.holdSet (s.dueCommits new) s.reference.record
    ∃ t, exec (.cycleBoundary false) s = .next t ∧ t.life.state = .member ∧
      t.slots.cycle = new ∧ t.slots.now = s.slots.now ∧
      (∃ u, t.slots.timing = some u ∧ u.closesRaised = 0 ∧ u.ownStartRaised = false ∧ u.currentSlot = 0 ∧
        u.slotStart s.cfg.slotLength.toNat 0 = timing.cycleEnd s.cfg.slotLength.toNat) ∧
      t.reference.record = forward.1 ∧ t.reference.lastPublished = forward.1.ramp ∧ t.reference.divergence = false ∧
      t.claims.runPermit = decide (forward.1.ramp ≠ .stopped) ∧
      t.follower = followerPublish s.cfg forward.1 new (publishedCommit forward.2 == some .start) s.follower ∧
      (forward.1.ramp = .stopped ∨ s.follower.held.isSome = true → t.port.missCount = 0 ∧ t.port.silentDue = false) ∧
      (forward.1.ramp ≠ .stopped → s.follower.held = none →
        t.port.missCount = min (s.port.missCount + 1) s.cfg.reportTimeout.toNat ∧
        t.port.silentDue = decide (t.port.missCount = s.cfg.reportTimeout.toNat)) ∧
      (∀ e ∈ t.agreement.others, e ∈ s.agreement.others ∧ e.effective ≠ some new) ∧
      (∀ e b n, t.agreement.own = some e → e.phase ≠ .committed b new n) ∧
      (s.life.memberHeard = true ∧ s.life.ownSeen = false → t.life.exclusion = min (s.life.exclusion + 1) 2) ∧
      (s.life.memberHeard = false ∨ s.life.ownSeen = true → t.life.exclusion = 0) ∧
      t.bus = s.bus ∧ t.assembled = s.assembled ∧ t.store = s.store ∧ t.inReset = s.inReset ∧ t.pending = s.pending

/-- The order of a MEMBER's boundary (R4, R10, R14, R34, R44, R67, R79, R83, R98, R99, R138). The state before the roster's work: the claims marked
for the new cycle, the record brought forward, RUN_PERMIT, the follower and the report-miss count as the publication leaves them, the due entries
gone, and RAMP_STATE, if the ramp state is another than last published, before the notices of the commits in their order. On it the roster takes its
stations in ascending order of number, and the island-reported set keeps only what is FOREIGN. The order of two blocks' notices and of the stations is
the model's choice (log entries 5 and 17); so is that EXPIRED and LOCAL_SILENT, commands of their own, are posted after these. Where an exclusion
count comes to 2 and the change is taken first, nothing is published and no commit is processed (R98); that the station is then MEMBER until EXCLUDED
is the model's reading (log entry 8). -/
def Obligations.ABoundaryPublishesAndMovesTheRoster : Prop :=
  ∀ (s : State) (timing : Timing), s.inReset = false → s.life.state = .member → s.slots.timing = some timing →
    let new := s.slots.cycle + 1
    let begun : State := { s with
      slots := { s.slots with
        timing := some (timing.newCycle s.cfg.slotLength.toNat (contains s.roster.heard 15)), cycle := new, atBoundary := true }
      roster := { s.roster with heard := 0 } }
    let claims := claimsBoundary new s.claims
    let forward := bringForward s.cfg.rampStep s.cfg.stopStep new claims.stopEffective claims.holdSet (s.dueCommits new) s.reference.record
    let excluding : Prop := s.life.memberHeard = true ∧ s.life.ownSeen = false
    let rampNotices : List OwnNotice :=
      if forward.1.ramp = s.reference.lastPublished then [] else [(.rampState, 0, forward.1.ramp.code, forward.1.s)]
    let commitNotices : List OwnNotice := forward.2.flatMap fun x =>
      (if x.1.origin = s.own then
        [offerResultNotice (if x.2 = true then .applied else .superseded) ((s.agreement.own.map (·.serial)).getD 0) 0 0] else []) ++
      (if x.2 = true then [(.changeApplied, stationNumber x.1.origin, x.1.kind.code, x.1.target)] else [])
    let first (order : Bool) : Prop := order = true ∧ excluding ∧ 1 ≤ s.life.exclusion
    (∀ order, ¬ first order → ∃ p : State,
      (let t := allStations.foldl State.rosterPublication p
       exec (.cycleBoundary order) s = .next { t with life := { t.life with
         islandReported := t.life.islandReported &&& Sys2Proof.Machine.setOf fun k => decide (t.roster.entries[k].state = .foreign) } }) ∧
      p = { begun with
        life := p.life
        claims := { claims with runPermit := decide (forward.1.ramp ≠ .stopped) }
        reference := { s.reference with record := forward.1, lastPublished := forward.1.ramp, divergence := false }
        follower := followerPublish s.cfg forward.1 new (publishedCommit forward.2 == some .start) s.follower
        port := p.port
        agreement := p.agreement
        notices := (s.atCycle new).noticesAfter (rampNotices ++ commitNotices) } ∧
      p.port = { s.port with missCount := p.port.missCount, silentDue := p.port.silentDue } ∧
      p.agreement.others = s.agreement.others.filter (fun e => decide (e.effective ≠ some new)) ∧ p.agreement.serial = s.agreement.serial ∧
      (∀ e b n, s.agreement.own = some e → e.phase = .committed b new n → p.agreement.own = none) ∧
      ((∀ e b n, s.agreement.own = some e → e.phase ≠ .committed b new n) → p.agreement.own = s.agreement.own) ∧
      (excluding → 1 ≤ s.life.exclusion → p.life = { s.life with exclusion := 2 }) ∧
      (excluding → s.life.exclusion = 0 →
        p.life = { s.life with exclusion := 1, memberHeard := false, ownSeen := false, firstSet := none }) ∧
      (¬ excluding → p.life = { s.life with exclusion := 0, memberHeard := false, ownSeen := false, firstSet := none })) ∧
    (∀ order, first order → exec (.cycleBoundary order) s = .next { begun with
      life := { s.life with exclusion := 2 }, claims := claims, reference := { s.reference with divergence := false } })

/-- CYCLE_BOUNDARY at a JOINING station (R96, R97, R21, R44, R107, Table 5-6 column (d)): with an admitting set the station becomes MEMBER with that
set. The record is the observed view brought forward under its own claims alone, and that publication drives RUN_PERMIT, the section follower, which
takes a report held from the last JOINING cycle, and the report-miss count (R136, R138, R148). The own claims keep their announcement, the due entries
go, and the notices are STATION_STATE, then RAMP_STATE against STOPPED and CHANGE_APPLIED of the commits (R14, R44, R90); that STATION_STATE comes
first is the model's choice (log entry 5). With no admitting set it stays JOINING, the quiet count counts a cycle without a member frame, a held
report is discarded, and the commits that fall due go quietly. The order of the change and the reference unit's work at an exclusion is the command's
operand (log entry 11). A quiet count that comes to M leaves the station JOINING until QUIET_COUNT_EXPIRY makes it LISTENING (R96), and a report-miss
count that comes to Nrep leaves LOCAL_SILENT due in a field of the model's own: the model's reading (log entries 8 and 22). -/
def Obligations.AJoiningStationBecomesMember : Prop :=
  ∀ (s : State) (timing : Timing) (order : Bool), s.inReset = false → s.life.state = .joining → s.slots.timing = some timing →
    s.claims.view = Vector.replicate 16 none → s.agreement.own = none →
    let new := s.slots.cycle + 1
    let claims := ownClaimsBoundary new s.claims
    let left := s.agreement.others.filter fun e => decide (e.effective ≠ some new)
    ∃ t u, exec (.cycleBoundary order) s = .next t ∧
      t.slots = { s.slots with timing := some u, cycle := new, atBoundary := true } ∧ u.closesRaised = 0 ∧ u.ownStartRaised = false ∧
      u.currentSlot = 0 ∧ u.slotStart s.cfg.slotLength.toNat 0 = timing.cycleEnd s.cfg.slotLength.toNat ∧
      (∀ set, s.life.admitting = some set →
        let forward := bringForward s.cfg.rampStep s.cfg.stopStep new (claims.stop.any (·.inForce)) claims.currentHold (s.dueCommits new)
          s.reference.view
        let rampNotices : List OwnNotice :=
          if forward.1.ramp = .stopped then [] else [(.rampState, 0, forward.1.ramp.code, forward.1.s)]
        let commitNotices : List OwnNotice := forward.2.flatMap fun x =>
          if x.2 = true then [(.changeApplied, stationNumber x.1.origin, x.1.kind.code, x.1.target)] else []
        t = { s with
          slots := t.slots
          life := { s.life with
            state := .member, exclusion := 0, joiningSince := none, admitting := none, joinHeard := false, listenTimer := none,
            memberHeard := false, ownSeen := false, firstSet := none, islandReported := 0 }
          roster := t.roster
          agreement := { s.agreement with others := left }
          claims := { claims with runPermit := decide (forward.1.ramp ≠ .stopped) }
          reference := { record := forward.1, view := LineRecord.reset, viewCycle := 0, lastPublished := forward.1.ramp, divergence := false }
          follower := followerPublish s.cfg forward.1 new (publishedCommit forward.2 == some .start) s.follower
          port := { s.port with missCount := t.port.missCount, silentDue := t.port.silentDue }
          notices := t.notices } ∧
        (forward.1.ramp = .stopped ∨ s.follower.held.isSome = true → t.port.missCount = 0 ∧ t.port.silentDue = false) ∧
        (forward.1.ramp ≠ .stopped → s.follower.held = none →
          t.port.missCount = min (s.port.missCount + 1) s.cfg.reportTimeout.toNat ∧
          t.port.silentDue = decide (t.port.missCount = s.cfg.reportTimeout.toNat)) ∧
        t.notices = (s.atCycle new).noticesAfter (stationStateNotice .member .joining :: (rampNotices ++ commitNotices)) ∧
        t.roster.heard = 0 ∧ (∀ k : Station, t.isMember k = (contains set k || decide (k = s.own))) ∧
        (∀ k : Station, k ≠ s.own → contains set k = true → t.roster.entries[k] = { RosterEntry.reset with state := .member }) ∧
        (∀ k : Station, k ≠ s.own → contains set k = false → t.roster.entries[k] = RosterEntry.reset)) ∧
      (s.life.admitting = none → t = { s with
        slots := t.slots
        life := { s.life with
          quiet := if s.life.joinHeard = true then 0 else min (s.life.quiet + 1) s.cfg.missedLimit.toNat, joinHeard := false }
        roster := { s.roster with heard := 0 }
        agreement := { s.agreement with others := left }
        claims := claims
        reference := { s.reference with divergence := false }
        follower := { s.follower with held := none } })

/-- CYCLE_BOUNDARY at a LEAVING station (R4, R44, R51, R60): nothing is published; the commits that fall due are removed, and only the own one is
posted, SUPERSEDED. Then every departure due at the new cycle is taken, in ascending order of number (R79; log entry 17): a member whose leave due
cycle it is is removed with reason LEFT, and its verdict with it (R45). That SUPERSEDED, the agreement unit's, precedes these MEMBER_REMOVED notices,
the roster's, is the model's choice (log entry 5): R163 leaves it open. With no slot timing no boundary is raised (R130). What a departed entry keeps
is the model's reading (log entry 15). That a boundary without timing has no effect is the model's choice (log entry 10). -/
def Obligations.ALeavingStationSupersedesCommits : Prop :=
  ∀ (s : State) (order : Bool), s.inReset = false →
    (s.slots.timing = none → exec (.cycleBoundary order) s = .next s) ∧
    ∀ timing, s.slots.timing = some timing → s.life.state = .leaving →
      let new := s.slots.cycle + 1
      ∃ t, exec (.cycleBoundary order) s = .next (allStations.foldl State.rosterDeparture t) ∧ t.slots.cycle = new ∧ t.life = s.life ∧
        (∀ (u : State) (k : Station), u.slots.cycle = new → u.life.state = .leaving → k ≠ u.own →
          let entry := u.roster.entries[k]
          let left := u.rosterDeparture k
          (entry.state ≠ .member ∨ entry.leaveDue ≠ some new → left = u) ∧
          (entry.state = .member → entry.leaveDue = some new →
            left.roster.entries = u.roster.entries.set k
              { entry with state := .absent, missed := 0, leaveDue := none, joiningSince := none, cycleMismatch := false } ∧
            left.agreement.others = u.agreement.others.filter (fun e => decide (e.origin ≠ k)) ∧
            VerdictDropped k u.agreement.own left.agreement.own ∧ left.agreement.serial = u.agreement.serial ∧
            left.claims.view = u.claims.view.set k none ∧ left.claims.stop = u.claims.stop ∧
            left.notices = u.noticesAfter [(.memberRemoved, stationNumber k, RemovalReason.left.code, left.memberSet)])) ∧
        ((∀ k : Station, s.roster.entries[k].leaveDue ≠ some new) → exec (.cycleBoundary order) s = .next t) ∧
        t.reference = { s.reference with divergence := false } ∧ t.follower = s.follower ∧ t.port = s.port ∧
        t.claims = ownClaimsBoundary new s.claims ∧ t.roster = { s.roster with heard := 0 } ∧ t.bus = s.bus ∧
        t.agreement.others = s.agreement.others.filter (fun e => decide (e.effective ≠ some new)) ∧
        (∀ e b n, s.agreement.own = some e → e.phase = .committed b new n → t.agreement.own = none ∧
          t.notices = (s.atCycle new).noticesAfter [offerResultNotice .superseded e.serial 0 0]) ∧
        ((∀ e b n, s.agreement.own = some e → e.phase ≠ .committed b new n) → t.agreement.own = s.agreement.own ∧ t.notices = s.notices)

/-- OWN_SLOT_START (R113, R109, R110, R51, R59, R94, R105): once a cycle, in a transmitting state with timing, one frame is assembled from
the owners' state: a set stop claim receives its effective cycle, a combined hold that differs from the announced value is announced unless
a change is pending, the first JOINING frame fixes the joining-since, and LEAVING frames are counted. That the event is taken whatever the
clock shows, and at most once a cycle, is the model's choice (log entry 10). -/
def Obligations.OwnSlotStartAssemblesTheFrame : Prop :=
  ∀ s : State, s.inReset = false →
    (∀ timing, s.slots.timing = some timing → s.life.state.transmits = true → timing.ownStartRaised = false →
      let c := s.slots.cycle
      let announces : Prop := s.combinedHold ≠ s.claims.announced ∧ s.claims.announcedEffective = none
      ∃ t a, exec .ownSlotStart s = .next t ∧ t.assembled = some { frame := a, startedAt := s.slots.now } ∧
        t.slots = { s.slots with timing := some { timing with ownStartRaised := true, currentSlot := s.own } } ∧
        t.claims.stop = s.claims.stop.map (fun k => { k with effective := some (k.effective.getD (c + 2)) }) ∧
        (announces → t.claims.announced = s.combinedHold ∧ t.claims.announcedEffective = some (c + 2)) ∧
        (¬ announces → t.claims.announced = s.claims.announced ∧ t.claims.announcedEffective = s.claims.announcedEffective) ∧
        a.station = s.own ∧ a.cycle = c ∧ a.digest = s.digest ∧
        a.reference = referencePartOf (if s.life.state = .joining then s.reference.view else s.reference.record) ∧
        a.members = (if s.life.state = .joining then 0 else s.memberSet) ∧
        a.stopCause = s.claims.stop.map (·.cause) ∧ a.stopEffective = (t.claims.stop.bind (·.effective)).getD 0 ∧
        a.hold = t.claims.announced ∧ a.holdEffective = t.claims.announcedEffective.getD c ∧
        (s.life.state = .joining → a.state = .joining ∧ a.restartCause = some s.life.restartCause ∧
          t.life = { s.life with joiningSince := some (s.life.joiningSince.getD c) } ∧ a.joiningSince = s.life.joiningSince.getD c) ∧
        (s.life.state = .member → a.state = .member ∧ a.restartCause = none ∧ a.joiningSince = 0 ∧ t.life = s.life) ∧
        (s.life.state = .leaving → a.state = .leaving ∧ a.restartCause = none ∧ a.joiningSince = 0 ∧
          t.life = { s.life with leavingFrames := min (s.life.leavingFrames + 1) 2 }) ∧
        t.reference = s.reference ∧ t.roster = s.roster ∧ t.follower = s.follower ∧ t.port = s.port ∧ t.bus = s.bus ∧
        t.claims.view = s.claims.view ∧ t.store = s.store ∧ t.inReset = s.inReset ∧ t.pending = s.pending) ∧
    (s.slots.timing = none ∨ s.life.state.transmits = false ∨ (∃ timing, s.slots.timing = some timing ∧ timing.ownStartRaised = true) →
      exec .ownSlotStart s = .next s)

/-- The agreement unit at the own-slot start of a MEMBER station (R47, R38, R39): every entry that awaits a verdict gets one, ACK if every check passes and else the
reason of the first that fails, check 3 included, each on the table as the verdicts before it in recording order left it; a verdict given is kept, and the frame carries a response for exactly the OFFERED entries with a verdict, in ascending order of origin. -/
def Obligations.VerdictsAreGivenAndRepeated : Prop :=
  ∀ (s : State) (timing : Timing), s.inReset = false → AgreementOk s → s.life.state = .member → s.slots.timing = some timing →
    timing.ownStartRaised = false →
    ∃ t a, exec .ownSlotStart s = .next t ∧ t.assembled = some { frame := a, startedAt := s.slots.now } ∧
      t.agreement.others.map (fun e => { e with verdict := none }) = s.agreement.others.map (fun e => { e with verdict := none }) ∧
      (∀ e ∈ s.agreement.others, (e.verdict ≠ none ∨ e.effective ≠ none ∨ contains e.voters s.own = false) → e ∈ t.agreement.others) ∧
      (∀ e ∈ t.agreement.others, e.effective = none → contains e.voters s.own = true → e.verdict ≠ none) ∧
      (∀ before e after, s.agreement.others = before ++ e :: after → e.verdict = none → e.effective = none → contains e.voters s.own = true →
        let table : State := { s with agreement := { s.agreement with others := t.agreement.others.take before.length ++ e :: after } }
        t.agreement.others[before.length]?.map (·.verdict) = some (match table.offerCheck e.kind e.target (some e.voters) e.origin with
          | none => some Verdict.ack
          | some why => some (Verdict.refuse why))) ∧
      (a.responses.Pairwise fun x y => x.origin < y.origin) ∧
      ∀ x : ResponsePart, x ∈ a.responses ↔
        ∃ e ∈ t.agreement.others, e.effective = none ∧ e.origin = x.origin ∧ e.serial = x.serial ∧ e.verdict = some x.verdict

/-- The own entry at the own-slot start of a MEMBER station (R27 to R31, R33, R47), the verdicts having been given: a QUEUED entry is offered, or
dropped with the reason of its check; an OFFERED one is withdrawn on a recorded refusal, or committed two cycles on once every voter still a member
has acknowledged, or carried on; and a decision is carried in the frame and its announcement counted. With no own entry the frame has neither offer
nor decision, and nothing is posted. At a LEAVING station a COMMITTED or WITHDRAWN entry with announcements left is carried as a decision too, and
counted (R33, R36, R111), and nothing else of the table moves: its frame has no offer and no responses. At a JOINING station, which has no own entry
(R23), the frame carries none of the three and the table stays. -/
def Obligations.TheOwnEntryMovesAtItsSlot : Prop :=
  (∀ (s : State) (timing : Timing) (e : OwnEntry), s.inReset = false → s.life.state = .member → s.slots.timing = some timing →
    timing.ownStartRaised = false → s.agreement.own = some e →
    let v := s.giveVerdicts
    let c := s.slots.cycle
    ∃ t a, exec .ownSlotStart s = .next t ∧ t.assembled = some { frame := a, startedAt := s.slots.now } ∧
      (e.phase = .queued → ∀ why, v.offerCheck e.kind e.target none s.own = some why →
        t.agreement.own = none ∧ a.offer = none ∧ a.decision = none ∧
        t.notices = s.noticesAfter [offerResultNotice .dropped e.serial 0 why.code]) ∧
      (e.phase = .queued → v.offerCheck e.kind e.target none s.own = none →
        t.agreement.own = some { e with phase := .offered ⟨c, s.memberSet, singleton s.own, none⟩ } ∧
        a.offer = some { serial := e.serial, kind := e.kind, target := e.target, firstOffered := c, voters := s.memberSet } ∧
        a.decision = none ∧ t.notices = s.notices) ∧
      (∀ b k why, e.phase = .offered b → b.refusal = some (k, why) →
        t.agreement.own = some { e with phase := .withdrawn b .refused 1 } ∧ a.offer = none ∧
        a.decision = some { serial := e.serial, outcome := .withdraw .refused, effective := 0 } ∧
        t.notices = s.noticesAfter [offerResultNotice .refused e.serial (stationNumber k) why.code]) ∧
      (∀ b, e.phase = .offered b → b.refusal = none →
        (∀ k : Station, contains b.voters k = true → s.isMember k = true → contains b.acks k = true) →
        t.agreement.own = some { e with phase := .committed b (c + 2) 1 } ∧ a.offer = none ∧
        a.decision = some { serial := e.serial, outcome := .commit, effective := c + 2 } ∧ t.notices = s.notices) ∧
      (∀ b, e.phase = .offered b → b.refusal = none →
        (∃ k : Station, contains b.voters k = true ∧ s.isMember k = true ∧ contains b.acks k = false) →
        t.agreement.own = some e ∧ a.decision = none ∧ t.notices = s.notices ∧
        a.offer = some { serial := e.serial, kind := e.kind, target := e.target, firstOffered := b.firstOffered, voters := b.voters }) ∧
      (∀ b effective n, e.phase = .committed b effective n → a.offer = none ∧ t.notices = s.notices ∧
        (n < 2 → t.agreement.own = some { e with phase := .committed b effective (n + 1) } ∧
          a.decision = some { serial := e.serial, outcome := .commit, effective := effective }) ∧
        (2 ≤ n → t.agreement.own = some e ∧ a.decision = none)) ∧
      (∀ b why n, e.phase = .withdrawn b why n → a.offer = none ∧ t.notices = s.notices ∧
        (n < 2 → t.agreement.own = some { e with phase := .withdrawn b why (n + 1) } ∧
          a.decision = some { serial := e.serial, outcome := .withdraw why, effective := 0 }) ∧
        (2 ≤ n → t.agreement.own = some e ∧ a.decision = none))) ∧
  (∀ (s : State) (timing : Timing), s.inReset = false → s.life.state = .member → s.slots.timing = some timing →
    timing.ownStartRaised = false → s.agreement.own = none →
    ∃ t a, exec .ownSlotStart s = .next t ∧ t.assembled = some { frame := a, startedAt := s.slots.now } ∧
      a.offer = none ∧ a.decision = none ∧ t.agreement.own = none ∧ t.agreement.serial = s.agreement.serial ∧ t.notices = s.notices) ∧
  ∀ (s : State) (timing : Timing), s.inReset = false → s.life.state = .leaving ∨ s.life.state = .joining → s.slots.timing = some timing →
    timing.ownStartRaised = false →
    ∃ t a, exec .ownSlotStart s = .next t ∧ t.assembled = some { frame := a, startedAt := s.slots.now } ∧
      a.offer = none ∧ a.responses = [] ∧ t.agreement.others = s.agreement.others ∧ t.agreement.serial = s.agreement.serial ∧
      t.notices = s.notices ∧ (s.agreement.own = none → t.agreement.own = none ∧ a.decision = none) ∧
      (s.life.state = .leaving → ∀ e, s.agreement.own = some e →
        (e.phase = .queued ∨ (∃ b, e.phase = .offered b) → t.agreement.own = some e ∧ a.decision = none) ∧
        (∀ b effective n, e.phase = .committed b effective n →
          (n < 2 → t.agreement.own = some { e with phase := .committed b effective (n + 1) } ∧
            a.decision = some { serial := e.serial, outcome := .commit, effective := effective }) ∧
          (2 ≤ n → t.agreement.own = some e ∧ a.decision = none)) ∧
        ∀ b why n, e.phase = .withdrawn b why n →
          (n < 2 → t.agreement.own = some { e with phase := .withdrawn b why (n + 1) } ∧
            a.decision = some { serial := e.serial, outcome := .withdraw why, effective := 0 }) ∧
          (2 ≤ n → t.agreement.own = some e ∧ a.decision = none))

/-! ## Headlines: what every step keeps, and frames -/

/-- The station right after power-on has every invariant below. -/
def Obligations.ResetHasTheInvariants : Prop :=
  NoticesOk State.reset ∧ TimingOk State.reset ∧ PermitOk State.reset ∧ ReferenceOk State.reset ∧ AgreementOk State.reset ∧
    BusOk State.reset ∧ OutsideOk State.reset ∧ FrameOk State.reset ∧ StoreOk State.reset

/-- Every step keeps the notice queue within 24 notices, and ATTN_N asserted exactly while one of an enabled class is queued (R160, R166); and BDE
asserted exactly while a frame is being sent, BTX at 1 otherwise, transmission to the transmitting states, and the collision count within 0..3
(R121). -/
def Obligations.StepKeepsTheNoticeQueueAndTheBusPort : Prop :=
  (∀ s t : State, NoticesOk s → step s = .next t → NoticesOk t) ∧
  (∀ s t : State, BusOk s → step s = .next t → BusOk t)

/-- Every step keeps slot timing present exactly in the transmitting states, and the cycle count 0 without it (R130); and a record accepted exactly
outside UNCONFIGURED, every field of it in its range, with its digest (R169, R170). -/
def Obligations.StepKeepsTheTimingAndTheStore : Prop :=
  (∀ s t : State, TimingOk s → step s = .next t → TimingOk t) ∧
  (∀ s t : State, StoreOk s → step s = .next t → StoreOk t)

/-- Every step keeps RUN_PERMIT asserted exactly while the station is MEMBER and its last published ramp state is not STOPPED (R67); the record at
the values of R2 outside MEMBER, and no observed view outside JOINING (R2, R20); and, outside MEMBER, the claim view empty and the follower idle but
for a held report, with every roster entry at its reset values outside MEMBER and LEAVING (R61, R70, R135, R136). -/
def Obligations.StepKeepsTheBlocksOutsideMember : Prop :=
  (∀ s t : State, PermitOk s → step s = .next t → PermitOk t) ∧
  (∀ s t : State, ReferenceOk s → step s = .next t → ReferenceOk t) ∧
  (∀ s t : State, OutsideOk s → step s = .next t → OutsideOk t)

/-- Every step keeps the proposal table keyed by origin, empty in the silent states, and within the law of R25: no two open entries that both carry
this station's acknowledgement (R22, R23, R25). -/
def Obligations.StepKeepsTheProposalTable : Prop :=
  ∀ s t : State, AgreementOk s → step s = .next t → AgreementOk t

/-- Every frame that the station assembles passes every content check of Table 6-5 (the note to R116), as an invariant of every step. -/
def Obligations.StepKeepsAssembledFramesValid : Prop :=
  ∀ s t : State, FrameOk s → step s = .next t → FrameOk t

/-- Decode and encode agree on every frame (R109, R111, R112, R115, R127): a frame that passes the content checks, with at most 15 responses, is
read back from its bytes; their length is the one that the counts byte gives, and their CRC agrees. -/
def Obligations.FrameEncodingReadsBack : Prop :=
  ∀ f : Frame, contentValid f = true → f.responses.length ≤ 15 →
    validFrame (frameBytes f) = some f ∧ expectedLength (frameBytes f) = some (frameBytes f).length ∧ crcAgrees (frameBytes f) = true
end

