-- ==== Sys2Proof/Laws/State.lean ====
section
/-! SUPPORT. The frame of every operation that is one record update: one lemma for each block it leaves as it was, true by `rfl`. -/

namespace Sys2Proof.Machine
open Sys2Proof

@[simp] theorem State.setEntry_inReset (s : State) (k : Station) (entry : RosterEntry) : (State.setEntry s k entry).inReset = s.inReset :=
    rfl
@[simp] theorem State.setEntry_bus (s : State) (k : Station) (entry : RosterEntry) : (State.setEntry s k entry).bus = s.bus := rfl
@[simp] theorem State.setEntry_slots (s : State) (k : Station) (entry : RosterEntry) : (State.setEntry s k entry).slots = s.slots := rfl
@[simp] theorem State.setEntry_assembled (s : State) (k : Station) (entry : RosterEntry) :
    (State.setEntry s k entry).assembled = s.assembled := rfl
@[simp] theorem State.setEntry_life (s : State) (k : Station) (entry : RosterEntry) : (State.setEntry s k entry).life = s.life := rfl
@[simp] theorem State.setEntry_agreement (s : State) (k : Station) (entry : RosterEntry) :
    (State.setEntry s k entry).agreement = s.agreement := rfl
@[simp] theorem State.setEntry_claims (s : State) (k : Station) (entry : RosterEntry) : (State.setEntry s k entry).claims = s.claims :=
    rfl
@[simp] theorem State.setEntry_reference (s : State) (k : Station) (entry : RosterEntry) :
    (State.setEntry s k entry).reference = s.reference := rfl
@[simp] theorem State.setEntry_follower (s : State) (k : Station) (entry : RosterEntry) : (State.setEntry s k entry).follower = s.follower :=
    rfl
@[simp] theorem State.setEntry_port (s : State) (k : Station) (entry : RosterEntry) : (State.setEntry s k entry).port = s.port := rfl
@[simp] theorem State.setEntry_notices (s : State) (k : Station) (entry : RosterEntry) : (State.setEntry s k entry).notices = s.notices :=
    rfl
@[simp] theorem State.setEntry_store (s : State) (k : Station) (entry : RosterEntry) : (State.setEntry s k entry).store = s.store := rfl
@[simp] theorem State.setEntry_pending (s : State) (k : Station) (entry : RosterEntry) : (State.setEntry s k entry).pending = s.pending :=
    rfl

@[simp] theorem State.examineAttention_inReset (s : State) : (State.examineAttention s).inReset = s.inReset := rfl
@[simp] theorem State.examineAttention_bus (s : State) : (State.examineAttention s).bus = s.bus := rfl
@[simp] theorem State.examineAttention_slots (s : State) : (State.examineAttention s).slots = s.slots := rfl
@[simp] theorem State.examineAttention_assembled (s : State) : (State.examineAttention s).assembled = s.assembled := rfl
@[simp] theorem State.examineAttention_life (s : State) : (State.examineAttention s).life = s.life := rfl
@[simp] theorem State.examineAttention_roster (s : State) : (State.examineAttention s).roster = s.roster := rfl
@[simp] theorem State.examineAttention_agreement (s : State) : (State.examineAttention s).agreement = s.agreement := rfl
@[simp] theorem State.examineAttention_claims (s : State) : (State.examineAttention s).claims = s.claims := rfl
@[simp] theorem State.examineAttention_reference (s : State) : (State.examineAttention s).reference = s.reference := rfl
@[simp] theorem State.examineAttention_follower (s : State) : (State.examineAttention s).follower = s.follower := rfl
@[simp] theorem State.examineAttention_port (s : State) : (State.examineAttention s).port = s.port := rfl
@[simp] theorem State.examineAttention_store (s : State) : (State.examineAttention s).store = s.store := rfl
@[simp] theorem State.examineAttention_pending (s : State) : (State.examineAttention s).pending = s.pending := rfl

@[simp] theorem State.post_inReset (s : State) (kind : NoticeKind) (station : Nat) (detail : Byte) (value : BitVec 16) :
    (State.post s kind station detail value).inReset = s.inReset := rfl
@[simp] theorem State.post_bus (s : State) (kind : NoticeKind) (station : Nat) (detail : Byte) (value : BitVec 16) :
    (State.post s kind station detail value).bus = s.bus := rfl
@[simp] theorem State.post_slots (s : State) (kind : NoticeKind) (station : Nat) (detail : Byte) (value : BitVec 16) :
    (State.post s kind station detail value).slots = s.slots := rfl
@[simp] theorem State.post_assembled (s : State) (kind : NoticeKind) (station : Nat) (detail : Byte) (value : BitVec 16) :
    (State.post s kind station detail value).assembled = s.assembled := rfl
@[simp] theorem State.post_life (s : State) (kind : NoticeKind) (station : Nat) (detail : Byte) (value : BitVec 16) :
    (State.post s kind station detail value).life = s.life := rfl
@[simp] theorem State.post_roster (s : State) (kind : NoticeKind) (station : Nat) (detail : Byte) (value : BitVec 16) :
    (State.post s kind station detail value).roster = s.roster := rfl
@[simp] theorem State.post_agreement (s : State) (kind : NoticeKind) (station : Nat) (detail : Byte) (value : BitVec 16) :
    (State.post s kind station detail value).agreement = s.agreement := rfl
@[simp] theorem State.post_claims (s : State) (kind : NoticeKind) (station : Nat) (detail : Byte) (value : BitVec 16) :
    (State.post s kind station detail value).claims = s.claims := rfl
@[simp] theorem State.post_reference (s : State) (kind : NoticeKind) (station : Nat) (detail : Byte) (value : BitVec 16) :
    (State.post s kind station detail value).reference = s.reference := rfl
@[simp] theorem State.post_follower (s : State) (kind : NoticeKind) (station : Nat) (detail : Byte) (value : BitVec 16) :
    (State.post s kind station detail value).follower = s.follower := rfl
@[simp] theorem State.post_port (s : State) (kind : NoticeKind) (station : Nat) (detail : Byte) (value : BitVec 16) :
    (State.post s kind station detail value).port = s.port := rfl
@[simp] theorem State.post_store (s : State) (kind : NoticeKind) (station : Nat) (detail : Byte) (value : BitVec 16) :
    (State.post s kind station detail value).store = s.store := rfl
@[simp] theorem State.post_pending (s : State) (kind : NoticeKind) (station : Nat) (detail : Byte) (value : BitVec 16) :
    (State.post s kind station detail value).pending = s.pending := rfl

@[simp] theorem State.postStationState_inReset (s : State) (previous : StationState) :
    (State.postStationState s previous).inReset = s.inReset := rfl
@[simp] theorem State.postStationState_bus (s : State) (previous : StationState) : (State.postStationState s previous).bus = s.bus := rfl
@[simp] theorem State.postStationState_slots (s : State) (previous : StationState) : (State.postStationState s previous).slots = s.slots :=
    rfl
@[simp] theorem State.postStationState_assembled (s : State) (previous : StationState) :
    (State.postStationState s previous).assembled = s.assembled := rfl
@[simp] theorem State.postStationState_life (s : State) (previous : StationState) : (State.postStationState s previous).life = s.life :=
    rfl
@[simp] theorem State.postStationState_roster (s : State) (previous : StationState) :
    (State.postStationState s previous).roster = s.roster := rfl
@[simp] theorem State.postStationState_agreement (s : State) (previous : StationState) :
    (State.postStationState s previous).agreement = s.agreement := rfl
@[simp] theorem State.postStationState_claims (s : State) (previous : StationState) :
    (State.postStationState s previous).claims = s.claims := rfl
@[simp] theorem State.postStationState_reference (s : State) (previous : StationState) :
    (State.postStationState s previous).reference = s.reference := rfl
@[simp] theorem State.postStationState_follower (s : State) (previous : StationState) :
    (State.postStationState s previous).follower = s.follower := rfl
@[simp] theorem State.postStationState_port (s : State) (previous : StationState) : (State.postStationState s previous).port = s.port :=
    rfl
@[simp] theorem State.postStationState_store (s : State) (previous : StationState) : (State.postStationState s previous).store = s.store :=
    rfl
@[simp] theorem State.postStationState_pending (s : State) (previous : StationState) :
    (State.postStationState s previous).pending = s.pending := rfl

@[simp] theorem State.clearReference_inReset (s : State) : (State.clearReference s).inReset = s.inReset := rfl
@[simp] theorem State.clearReference_bus (s : State) : (State.clearReference s).bus = s.bus := rfl
@[simp] theorem State.clearReference_slots (s : State) : (State.clearReference s).slots = s.slots := rfl
@[simp] theorem State.clearReference_assembled (s : State) : (State.clearReference s).assembled = s.assembled := rfl
@[simp] theorem State.clearReference_life (s : State) : (State.clearReference s).life = s.life := rfl
@[simp] theorem State.clearReference_roster (s : State) : (State.clearReference s).roster = s.roster := rfl
@[simp] theorem State.clearReference_agreement (s : State) : (State.clearReference s).agreement = s.agreement := rfl
@[simp] theorem State.clearReference_claims (s : State) : (State.clearReference s).claims = s.claims := rfl
@[simp] theorem State.clearReference_follower (s : State) : (State.clearReference s).follower = s.follower := rfl
@[simp] theorem State.clearReference_port (s : State) : (State.clearReference s).port = s.port := rfl
@[simp] theorem State.clearReference_notices (s : State) : (State.clearReference s).notices = s.notices := rfl
@[simp] theorem State.clearReference_store (s : State) : (State.clearReference s).store = s.store := rfl
@[simp] theorem State.clearReference_pending (s : State) : (State.clearReference s).pending = s.pending := rfl

@[simp] theorem State.setRecord_inReset (s : State) (k : Station) (r : Option ClaimRecord) : (State.setRecord s k r).inReset = s.inReset :=
    rfl
@[simp] theorem State.setRecord_bus (s : State) (k : Station) (r : Option ClaimRecord) : (State.setRecord s k r).bus = s.bus := rfl
@[simp] theorem State.setRecord_slots (s : State) (k : Station) (r : Option ClaimRecord) : (State.setRecord s k r).slots = s.slots := rfl
@[simp] theorem State.setRecord_assembled (s : State) (k : Station) (r : Option ClaimRecord) :
    (State.setRecord s k r).assembled = s.assembled := rfl
@[simp] theorem State.setRecord_life (s : State) (k : Station) (r : Option ClaimRecord) : (State.setRecord s k r).life = s.life := rfl
@[simp] theorem State.setRecord_roster (s : State) (k : Station) (r : Option ClaimRecord) : (State.setRecord s k r).roster = s.roster :=
    rfl
@[simp] theorem State.setRecord_agreement (s : State) (k : Station) (r : Option ClaimRecord) :
    (State.setRecord s k r).agreement = s.agreement := rfl
@[simp] theorem State.setRecord_reference (s : State) (k : Station) (r : Option ClaimRecord) :
    (State.setRecord s k r).reference = s.reference := rfl
@[simp] theorem State.setRecord_follower (s : State) (k : Station) (r : Option ClaimRecord) :
    (State.setRecord s k r).follower = s.follower := rfl
@[simp] theorem State.setRecord_port (s : State) (k : Station) (r : Option ClaimRecord) : (State.setRecord s k r).port = s.port := rfl
@[simp] theorem State.setRecord_notices (s : State) (k : Station) (r : Option ClaimRecord) : (State.setRecord s k r).notices = s.notices :=
    rfl
@[simp] theorem State.setRecord_store (s : State) (k : Station) (r : Option ClaimRecord) : (State.setRecord s k r).store = s.store := rfl
@[simp] theorem State.setRecord_pending (s : State) (k : Station) (r : Option ClaimRecord) : (State.setRecord s k r).pending = s.pending :=
    rfl

@[simp] theorem State.followPublication_inReset (s : State) (started : Bool) : (State.followPublication s started).inReset = s.inReset :=
    rfl
@[simp] theorem State.followPublication_bus (s : State) (started : Bool) : (State.followPublication s started).bus = s.bus := rfl
@[simp] theorem State.followPublication_slots (s : State) (started : Bool) : (State.followPublication s started).slots = s.slots := rfl
@[simp] theorem State.followPublication_assembled (s : State) (started : Bool) :
    (State.followPublication s started).assembled = s.assembled := rfl
@[simp] theorem State.followPublication_life (s : State) (started : Bool) : (State.followPublication s started).life = s.life := rfl
@[simp] theorem State.followPublication_roster (s : State) (started : Bool) : (State.followPublication s started).roster = s.roster := rfl
@[simp] theorem State.followPublication_agreement (s : State) (started : Bool) :
    (State.followPublication s started).agreement = s.agreement := rfl
@[simp] theorem State.followPublication_claims (s : State) (started : Bool) : (State.followPublication s started).claims = s.claims := rfl
@[simp] theorem State.followPublication_reference (s : State) (started : Bool) :
    (State.followPublication s started).reference = s.reference := rfl
@[simp] theorem State.followPublication_notices (s : State) (started : Bool) : (State.followPublication s started).notices = s.notices :=
    rfl
@[simp] theorem State.followPublication_store (s : State) (started : Bool) : (State.followPublication s started).store = s.store := rfl
@[simp] theorem State.followPublication_pending (s : State) (started : Bool) : (State.followPublication s started).pending = s.pending :=
    rfl

@[simp] theorem State.idleFollower_inReset (s : State) : (State.idleFollower s).inReset = s.inReset := rfl
@[simp] theorem State.idleFollower_bus (s : State) : (State.idleFollower s).bus = s.bus := rfl
@[simp] theorem State.idleFollower_slots (s : State) : (State.idleFollower s).slots = s.slots := rfl
@[simp] theorem State.idleFollower_assembled (s : State) : (State.idleFollower s).assembled = s.assembled := rfl
@[simp] theorem State.idleFollower_life (s : State) : (State.idleFollower s).life = s.life := rfl
@[simp] theorem State.idleFollower_roster (s : State) : (State.idleFollower s).roster = s.roster := rfl
@[simp] theorem State.idleFollower_agreement (s : State) : (State.idleFollower s).agreement = s.agreement := rfl
@[simp] theorem State.idleFollower_claims (s : State) : (State.idleFollower s).claims = s.claims := rfl
@[simp] theorem State.idleFollower_reference (s : State) : (State.idleFollower s).reference = s.reference := rfl
@[simp] theorem State.idleFollower_notices (s : State) : (State.idleFollower s).notices = s.notices := rfl
@[simp] theorem State.idleFollower_store (s : State) : (State.idleFollower s).store = s.store := rfl
@[simp] theorem State.idleFollower_pending (s : State) : (State.idleFollower s).pending = s.pending := rfl

@[simp] theorem State.dropReport_inReset (s : State) : (State.dropReport s).inReset = s.inReset := rfl
@[simp] theorem State.dropReport_bus (s : State) : (State.dropReport s).bus = s.bus := rfl
@[simp] theorem State.dropReport_slots (s : State) : (State.dropReport s).slots = s.slots := rfl
@[simp] theorem State.dropReport_assembled (s : State) : (State.dropReport s).assembled = s.assembled := rfl
@[simp] theorem State.dropReport_life (s : State) : (State.dropReport s).life = s.life := rfl
@[simp] theorem State.dropReport_roster (s : State) : (State.dropReport s).roster = s.roster := rfl
@[simp] theorem State.dropReport_agreement (s : State) : (State.dropReport s).agreement = s.agreement := rfl
@[simp] theorem State.dropReport_claims (s : State) : (State.dropReport s).claims = s.claims := rfl
@[simp] theorem State.dropReport_reference (s : State) : (State.dropReport s).reference = s.reference := rfl
@[simp] theorem State.dropReport_follower (s : State) : (State.dropReport s).follower = { s.follower with held := none } := rfl
@[simp] theorem State.dropReport_port (s : State) : (State.dropReport s).port = s.port := rfl
@[simp] theorem State.dropReport_notices (s : State) : (State.dropReport s).notices = s.notices := rfl
@[simp] theorem State.dropReport_store (s : State) : (State.dropReport s).store = s.store := rfl
@[simp] theorem State.dropReport_pending (s : State) : (State.dropReport s).pending = s.pending := rfl

@[simp] theorem State.postOfferResult_inReset (s : State) (outcome : OfferOutcome) (serial : Byte) (station : Nat) (reason : Byte) :
    (State.postOfferResult s outcome serial station reason).inReset = s.inReset := rfl
@[simp] theorem State.postOfferResult_bus (s : State) (outcome : OfferOutcome) (serial : Byte) (station : Nat) (reason : Byte) :
    (State.postOfferResult s outcome serial station reason).bus = s.bus := rfl
@[simp] theorem State.postOfferResult_slots (s : State) (outcome : OfferOutcome) (serial : Byte) (station : Nat) (reason : Byte) :
    (State.postOfferResult s outcome serial station reason).slots = s.slots := rfl
@[simp] theorem State.postOfferResult_assembled (s : State) (outcome : OfferOutcome) (serial : Byte) (station : Nat) (reason : Byte) :
    (State.postOfferResult s outcome serial station reason).assembled = s.assembled := rfl
@[simp] theorem State.postOfferResult_life (s : State) (outcome : OfferOutcome) (serial : Byte) (station : Nat) (reason : Byte) :
    (State.postOfferResult s outcome serial station reason).life = s.life := rfl
@[simp] theorem State.postOfferResult_roster (s : State) (outcome : OfferOutcome) (serial : Byte) (station : Nat) (reason : Byte) :
    (State.postOfferResult s outcome serial station reason).roster = s.roster := rfl
@[simp] theorem State.postOfferResult_agreement (s : State) (outcome : OfferOutcome) (serial : Byte) (station : Nat) (reason : Byte) :
    (State.postOfferResult s outcome serial station reason).agreement = s.agreement := rfl
@[simp] theorem State.postOfferResult_claims (s : State) (outcome : OfferOutcome) (serial : Byte) (station : Nat) (reason : Byte) :
    (State.postOfferResult s outcome serial station reason).claims = s.claims := rfl
@[simp] theorem State.postOfferResult_reference (s : State) (outcome : OfferOutcome) (serial : Byte) (station : Nat) (reason : Byte) :
    (State.postOfferResult s outcome serial station reason).reference = s.reference := rfl
@[simp] theorem State.postOfferResult_follower (s : State) (outcome : OfferOutcome) (serial : Byte) (station : Nat) (reason : Byte) :
    (State.postOfferResult s outcome serial station reason).follower = s.follower := rfl
@[simp] theorem State.postOfferResult_port (s : State) (outcome : OfferOutcome) (serial : Byte) (station : Nat) (reason : Byte) :
    (State.postOfferResult s outcome serial station reason).port = s.port := rfl
@[simp] theorem State.postOfferResult_store (s : State) (outcome : OfferOutcome) (serial : Byte) (station : Nat) (reason : Byte) :
    (State.postOfferResult s outcome serial station reason).store = s.store := rfl
@[simp] theorem State.postOfferResult_pending (s : State) (outcome : OfferOutcome) (serial : Byte) (station : Nat) (reason : Byte) :
    (State.postOfferResult s outcome serial station reason).pending = s.pending := rfl

@[simp] theorem State.setOwnEntry_inReset (s : State) (e : Option OwnEntry) : (State.setOwnEntry s e).inReset = s.inReset := rfl
@[simp] theorem State.setOwnEntry_bus (s : State) (e : Option OwnEntry) : (State.setOwnEntry s e).bus = s.bus := rfl
@[simp] theorem State.setOwnEntry_slots (s : State) (e : Option OwnEntry) : (State.setOwnEntry s e).slots = s.slots := rfl
@[simp] theorem State.setOwnEntry_assembled (s : State) (e : Option OwnEntry) : (State.setOwnEntry s e).assembled = s.assembled := rfl
@[simp] theorem State.setOwnEntry_life (s : State) (e : Option OwnEntry) : (State.setOwnEntry s e).life = s.life := rfl
@[simp] theorem State.setOwnEntry_roster (s : State) (e : Option OwnEntry) : (State.setOwnEntry s e).roster = s.roster := rfl
@[simp] theorem State.setOwnEntry_claims (s : State) (e : Option OwnEntry) : (State.setOwnEntry s e).claims = s.claims := rfl
@[simp] theorem State.setOwnEntry_reference (s : State) (e : Option OwnEntry) : (State.setOwnEntry s e).reference = s.reference := rfl
@[simp] theorem State.setOwnEntry_follower (s : State) (e : Option OwnEntry) : (State.setOwnEntry s e).follower = s.follower := rfl
@[simp] theorem State.setOwnEntry_port (s : State) (e : Option OwnEntry) : (State.setOwnEntry s e).port = s.port := rfl
@[simp] theorem State.setOwnEntry_notices (s : State) (e : Option OwnEntry) : (State.setOwnEntry s e).notices = s.notices := rfl
@[simp] theorem State.setOwnEntry_store (s : State) (e : Option OwnEntry) : (State.setOwnEntry s e).store = s.store := rfl
@[simp] theorem State.setOwnEntry_pending (s : State) (e : Option OwnEntry) : (State.setOwnEntry s e).pending = s.pending := rfl

@[simp] theorem State.updateOther_inReset (s : State) (k : Station) (change : OtherEntry → OtherEntry) :
    (State.updateOther s k change).inReset = s.inReset := rfl
@[simp] theorem State.updateOther_bus (s : State) (k : Station) (change : OtherEntry → OtherEntry) :
    (State.updateOther s k change).bus = s.bus := rfl
@[simp] theorem State.updateOther_slots (s : State) (k : Station) (change : OtherEntry → OtherEntry) :
    (State.updateOther s k change).slots = s.slots := rfl
@[simp] theorem State.updateOther_assembled (s : State) (k : Station) (change : OtherEntry → OtherEntry) :
    (State.updateOther s k change).assembled = s.assembled := rfl
@[simp] theorem State.updateOther_life (s : State) (k : Station) (change : OtherEntry → OtherEntry) :
    (State.updateOther s k change).life = s.life := rfl
@[simp] theorem State.updateOther_roster (s : State) (k : Station) (change : OtherEntry → OtherEntry) :
    (State.updateOther s k change).roster = s.roster := rfl
@[simp] theorem State.updateOther_claims (s : State) (k : Station) (change : OtherEntry → OtherEntry) :
    (State.updateOther s k change).claims = s.claims := rfl
@[simp] theorem State.updateOther_reference (s : State) (k : Station) (change : OtherEntry → OtherEntry) :
    (State.updateOther s k change).reference = s.reference := rfl
@[simp] theorem State.updateOther_follower (s : State) (k : Station) (change : OtherEntry → OtherEntry) :
    (State.updateOther s k change).follower = s.follower := rfl
@[simp] theorem State.updateOther_port (s : State) (k : Station) (change : OtherEntry → OtherEntry) :
    (State.updateOther s k change).port = s.port := rfl
@[simp] theorem State.updateOther_notices (s : State) (k : Station) (change : OtherEntry → OtherEntry) :
    (State.updateOther s k change).notices = s.notices := rfl
@[simp] theorem State.updateOther_store (s : State) (k : Station) (change : OtherEntry → OtherEntry) :
    (State.updateOther s k change).store = s.store := rfl
@[simp] theorem State.updateOther_pending (s : State) (k : Station) (change : OtherEntry → OtherEntry) :
    (State.updateOther s k change).pending = s.pending := rfl

@[simp] theorem State.removeOther_inReset (s : State) (k : Station) : (State.removeOther s k).inReset = s.inReset := rfl
@[simp] theorem State.removeOther_bus (s : State) (k : Station) : (State.removeOther s k).bus = s.bus := rfl
@[simp] theorem State.removeOther_slots (s : State) (k : Station) : (State.removeOther s k).slots = s.slots := rfl
@[simp] theorem State.removeOther_assembled (s : State) (k : Station) : (State.removeOther s k).assembled = s.assembled := rfl
@[simp] theorem State.removeOther_life (s : State) (k : Station) : (State.removeOther s k).life = s.life := rfl
@[simp] theorem State.removeOther_roster (s : State) (k : Station) : (State.removeOther s k).roster = s.roster := rfl
@[simp] theorem State.removeOther_claims (s : State) (k : Station) : (State.removeOther s k).claims = s.claims := rfl
@[simp] theorem State.removeOther_reference (s : State) (k : Station) : (State.removeOther s k).reference = s.reference := rfl
@[simp] theorem State.removeOther_follower (s : State) (k : Station) : (State.removeOther s k).follower = s.follower := rfl
@[simp] theorem State.removeOther_port (s : State) (k : Station) : (State.removeOther s k).port = s.port := rfl
@[simp] theorem State.removeOther_notices (s : State) (k : Station) : (State.removeOther s k).notices = s.notices := rfl
@[simp] theorem State.removeOther_store (s : State) (k : Station) : (State.removeOther s k).store = s.store := rfl
@[simp] theorem State.removeOther_pending (s : State) (k : Station) : (State.removeOther s k).pending = s.pending := rfl

@[simp] theorem State.giveVerdict_inReset (s : State) (e : OtherEntry) : (State.giveVerdict s e).inReset = s.inReset := rfl
@[simp] theorem State.giveVerdict_bus (s : State) (e : OtherEntry) : (State.giveVerdict s e).bus = s.bus := rfl
@[simp] theorem State.giveVerdict_slots (s : State) (e : OtherEntry) : (State.giveVerdict s e).slots = s.slots := rfl
@[simp] theorem State.giveVerdict_assembled (s : State) (e : OtherEntry) : (State.giveVerdict s e).assembled = s.assembled := rfl
@[simp] theorem State.giveVerdict_life (s : State) (e : OtherEntry) : (State.giveVerdict s e).life = s.life := rfl
@[simp] theorem State.giveVerdict_roster (s : State) (e : OtherEntry) : (State.giveVerdict s e).roster = s.roster := rfl
@[simp] theorem State.giveVerdict_claims (s : State) (e : OtherEntry) : (State.giveVerdict s e).claims = s.claims := rfl
@[simp] theorem State.giveVerdict_reference (s : State) (e : OtherEntry) : (State.giveVerdict s e).reference = s.reference := rfl
@[simp] theorem State.giveVerdict_follower (s : State) (e : OtherEntry) : (State.giveVerdict s e).follower = s.follower := rfl
@[simp] theorem State.giveVerdict_port (s : State) (e : OtherEntry) : (State.giveVerdict s e).port = s.port := rfl
@[simp] theorem State.giveVerdict_notices (s : State) (e : OtherEntry) : (State.giveVerdict s e).notices = s.notices := rfl
@[simp] theorem State.giveVerdict_store (s : State) (e : OtherEntry) : (State.giveVerdict s e).store = s.store := rfl
@[simp] theorem State.giveVerdict_pending (s : State) (e : OtherEntry) : (State.giveVerdict s e).pending = s.pending := rfl

@[simp] theorem State.removeGraceOver_inReset (s : State) : (State.removeGraceOver s).inReset = s.inReset := rfl
@[simp] theorem State.removeGraceOver_bus (s : State) : (State.removeGraceOver s).bus = s.bus := rfl
@[simp] theorem State.removeGraceOver_slots (s : State) : (State.removeGraceOver s).slots = s.slots := rfl
@[simp] theorem State.removeGraceOver_assembled (s : State) : (State.removeGraceOver s).assembled = s.assembled := rfl
@[simp] theorem State.removeGraceOver_life (s : State) : (State.removeGraceOver s).life = s.life := rfl
@[simp] theorem State.removeGraceOver_roster (s : State) : (State.removeGraceOver s).roster = s.roster := rfl
@[simp] theorem State.removeGraceOver_claims (s : State) : (State.removeGraceOver s).claims = s.claims := rfl
@[simp] theorem State.removeGraceOver_reference (s : State) : (State.removeGraceOver s).reference = s.reference := rfl
@[simp] theorem State.removeGraceOver_follower (s : State) : (State.removeGraceOver s).follower = s.follower := rfl
@[simp] theorem State.removeGraceOver_port (s : State) : (State.removeGraceOver s).port = s.port := rfl
@[simp] theorem State.removeGraceOver_notices (s : State) : (State.removeGraceOver s).notices = s.notices := rfl
@[simp] theorem State.removeGraceOver_store (s : State) : (State.removeGraceOver s).store = s.store := rfl
@[simp] theorem State.removeGraceOver_pending (s : State) : (State.removeGraceOver s).pending = s.pending := rfl

@[simp] theorem State.removeDue_inReset (s : State) (new : Cycle) : (State.removeDue s new).inReset = s.inReset := rfl
@[simp] theorem State.removeDue_bus (s : State) (new : Cycle) : (State.removeDue s new).bus = s.bus := rfl
@[simp] theorem State.removeDue_slots (s : State) (new : Cycle) : (State.removeDue s new).slots = s.slots := rfl
@[simp] theorem State.removeDue_assembled (s : State) (new : Cycle) : (State.removeDue s new).assembled = s.assembled := rfl
@[simp] theorem State.removeDue_life (s : State) (new : Cycle) : (State.removeDue s new).life = s.life := rfl
@[simp] theorem State.removeDue_roster (s : State) (new : Cycle) : (State.removeDue s new).roster = s.roster := rfl
@[simp] theorem State.removeDue_claims (s : State) (new : Cycle) : (State.removeDue s new).claims = s.claims := rfl
@[simp] theorem State.removeDue_reference (s : State) (new : Cycle) : (State.removeDue s new).reference = s.reference := rfl
@[simp] theorem State.removeDue_follower (s : State) (new : Cycle) : (State.removeDue s new).follower = s.follower := rfl
@[simp] theorem State.removeDue_port (s : State) (new : Cycle) : (State.removeDue s new).port = s.port := rfl
@[simp] theorem State.removeDue_notices (s : State) (new : Cycle) : (State.removeDue s new).notices = s.notices := rfl
@[simp] theorem State.removeDue_store (s : State) (new : Cycle) : (State.removeDue s new).store = s.store := rfl
@[simp] theorem State.removeDue_pending (s : State) (new : Cycle) : (State.removeDue s new).pending = s.pending := rfl

@[simp] theorem State.dropAdmissions_inReset (s : State) : (State.dropAdmissions s).inReset = s.inReset := rfl
@[simp] theorem State.dropAdmissions_bus (s : State) : (State.dropAdmissions s).bus = s.bus := rfl
@[simp] theorem State.dropAdmissions_slots (s : State) : (State.dropAdmissions s).slots = s.slots := rfl
@[simp] theorem State.dropAdmissions_assembled (s : State) : (State.dropAdmissions s).assembled = s.assembled := rfl
@[simp] theorem State.dropAdmissions_life (s : State) : (State.dropAdmissions s).life = s.life := rfl
@[simp] theorem State.dropAdmissions_agreement (s : State) : (State.dropAdmissions s).agreement = s.agreement := rfl
@[simp] theorem State.dropAdmissions_claims (s : State) : (State.dropAdmissions s).claims = s.claims := rfl
@[simp] theorem State.dropAdmissions_reference (s : State) : (State.dropAdmissions s).reference = s.reference := rfl
@[simp] theorem State.dropAdmissions_follower (s : State) : (State.dropAdmissions s).follower = s.follower := rfl
@[simp] theorem State.dropAdmissions_port (s : State) : (State.dropAdmissions s).port = s.port := rfl
@[simp] theorem State.dropAdmissions_notices (s : State) : (State.dropAdmissions s).notices = s.notices := rfl
@[simp] theorem State.dropAdmissions_store (s : State) : (State.dropAdmissions s).store = s.store := rfl
@[simp] theorem State.dropAdmissions_pending (s : State) : (State.dropAdmissions s).pending = s.pending := rfl

@[simp] theorem State.dropTiming_inReset (s : State) : (State.dropTiming s).inReset = s.inReset := rfl
@[simp] theorem State.dropTiming_bus (s : State) : (State.dropTiming s).bus = s.bus := rfl
@[simp] theorem State.dropTiming_assembled (s : State) : (State.dropTiming s).assembled = s.assembled := rfl
@[simp] theorem State.dropTiming_life (s : State) : (State.dropTiming s).life = s.life := rfl
@[simp] theorem State.dropTiming_roster (s : State) : (State.dropTiming s).roster = s.roster := rfl
@[simp] theorem State.dropTiming_agreement (s : State) : (State.dropTiming s).agreement = s.agreement := rfl
@[simp] theorem State.dropTiming_claims (s : State) : (State.dropTiming s).claims = s.claims := rfl
@[simp] theorem State.dropTiming_reference (s : State) : (State.dropTiming s).reference = s.reference := rfl
@[simp] theorem State.dropTiming_follower (s : State) : (State.dropTiming s).follower = s.follower := rfl
@[simp] theorem State.dropTiming_port (s : State) : (State.dropTiming s).port = s.port := rfl
@[simp] theorem State.dropTiming_notices (s : State) : (State.dropTiming s).notices = s.notices := rfl
@[simp] theorem State.dropTiming_store (s : State) : (State.dropTiming s).store = s.store := rfl
@[simp] theorem State.dropTiming_pending (s : State) : (State.dropTiming s).pending = s.pending := rfl

@[simp] theorem State.cutTransmission_inReset (s : State) : (State.cutTransmission s).inReset = s.inReset := rfl
@[simp] theorem State.cutTransmission_slots (s : State) : (State.cutTransmission s).slots = s.slots := rfl
@[simp] theorem State.cutTransmission_life (s : State) : (State.cutTransmission s).life = s.life := rfl
@[simp] theorem State.cutTransmission_roster (s : State) : (State.cutTransmission s).roster = s.roster := rfl
@[simp] theorem State.cutTransmission_agreement (s : State) : (State.cutTransmission s).agreement = s.agreement := rfl
@[simp] theorem State.cutTransmission_claims (s : State) : (State.cutTransmission s).claims = s.claims := rfl
@[simp] theorem State.cutTransmission_reference (s : State) : (State.cutTransmission s).reference = s.reference := rfl
@[simp] theorem State.cutTransmission_follower (s : State) : (State.cutTransmission s).follower = s.follower := rfl
@[simp] theorem State.cutTransmission_port (s : State) : (State.cutTransmission s).port = s.port := rfl
@[simp] theorem State.cutTransmission_notices (s : State) : (State.cutTransmission s).notices = s.notices := rfl
@[simp] theorem State.cutTransmission_store (s : State) : (State.cutTransmission s).store = s.store := rfl
@[simp] theorem State.cutTransmission_pending (s : State) : (State.cutTransmission s).pending = s.pending := rfl

@[simp] theorem State.emptyRoster_inReset (s : State) : (State.emptyRoster s).inReset = s.inReset := rfl
@[simp] theorem State.emptyRoster_bus (s : State) : (State.emptyRoster s).bus = s.bus := rfl
@[simp] theorem State.emptyRoster_slots (s : State) : (State.emptyRoster s).slots = s.slots := rfl
@[simp] theorem State.emptyRoster_assembled (s : State) : (State.emptyRoster s).assembled = s.assembled := rfl
@[simp] theorem State.emptyRoster_life (s : State) : (State.emptyRoster s).life = s.life := rfl
@[simp] theorem State.emptyRoster_agreement (s : State) : (State.emptyRoster s).agreement = s.agreement := rfl
@[simp] theorem State.emptyRoster_claims (s : State) : (State.emptyRoster s).claims = s.claims := rfl
@[simp] theorem State.emptyRoster_reference (s : State) : (State.emptyRoster s).reference = s.reference := rfl
@[simp] theorem State.emptyRoster_follower (s : State) : (State.emptyRoster s).follower = s.follower := rfl
@[simp] theorem State.emptyRoster_port (s : State) : (State.emptyRoster s).port = s.port := rfl
@[simp] theorem State.emptyRoster_notices (s : State) : (State.emptyRoster s).notices = s.notices := rfl
@[simp] theorem State.emptyRoster_store (s : State) : (State.emptyRoster s).store = s.store := rfl
@[simp] theorem State.emptyRoster_pending (s : State) : (State.emptyRoster s).pending = s.pending := rfl

@[simp] theorem State.closeClaims_inReset (s : State) : (State.closeClaims s).inReset = s.inReset := rfl
@[simp] theorem State.closeClaims_bus (s : State) : (State.closeClaims s).bus = s.bus := rfl
@[simp] theorem State.closeClaims_slots (s : State) : (State.closeClaims s).slots = s.slots := rfl
@[simp] theorem State.closeClaims_assembled (s : State) : (State.closeClaims s).assembled = s.assembled := rfl
@[simp] theorem State.closeClaims_life (s : State) : (State.closeClaims s).life = s.life := rfl
@[simp] theorem State.closeClaims_roster (s : State) : (State.closeClaims s).roster = s.roster := rfl
@[simp] theorem State.closeClaims_agreement (s : State) : (State.closeClaims s).agreement = s.agreement := rfl
@[simp] theorem State.closeClaims_reference (s : State) : (State.closeClaims s).reference = s.reference := rfl
@[simp] theorem State.closeClaims_follower (s : State) : (State.closeClaims s).follower = s.follower := rfl
@[simp] theorem State.closeClaims_port (s : State) : (State.closeClaims s).port = s.port := rfl
@[simp] theorem State.closeClaims_notices (s : State) : (State.closeClaims s).notices = s.notices := rfl
@[simp] theorem State.closeClaims_store (s : State) : (State.closeClaims s).store = s.store := rfl
@[simp] theorem State.closeClaims_pending (s : State) : (State.closeClaims s).pending = s.pending := rfl

@[simp] theorem State.unannounceClaims_inReset (s : State) : (State.unannounceClaims s).inReset = s.inReset := rfl
@[simp] theorem State.unannounceClaims_bus (s : State) : (State.unannounceClaims s).bus = s.bus := rfl
@[simp] theorem State.unannounceClaims_slots (s : State) : (State.unannounceClaims s).slots = s.slots := rfl
@[simp] theorem State.unannounceClaims_assembled (s : State) : (State.unannounceClaims s).assembled = s.assembled := rfl
@[simp] theorem State.unannounceClaims_life (s : State) : (State.unannounceClaims s).life = s.life := rfl
@[simp] theorem State.unannounceClaims_roster (s : State) : (State.unannounceClaims s).roster = s.roster := rfl
@[simp] theorem State.unannounceClaims_agreement (s : State) : (State.unannounceClaims s).agreement = s.agreement := rfl
@[simp] theorem State.unannounceClaims_reference (s : State) : (State.unannounceClaims s).reference = s.reference := rfl
@[simp] theorem State.unannounceClaims_follower (s : State) : (State.unannounceClaims s).follower = s.follower := rfl
@[simp] theorem State.unannounceClaims_port (s : State) : (State.unannounceClaims s).port = s.port := rfl
@[simp] theorem State.unannounceClaims_notices (s : State) : (State.unannounceClaims s).notices = s.notices := rfl
@[simp] theorem State.unannounceClaims_store (s : State) : (State.unannounceClaims s).store = s.store := rfl
@[simp] theorem State.unannounceClaims_pending (s : State) : (State.unannounceClaims s).pending = s.pending := rfl

@[simp] theorem State.leaveBlocks_inReset (s : State) : (State.leaveBlocks s).inReset = s.inReset := rfl
@[simp] theorem State.leaveBlocks_agreement (s : State) : (State.leaveBlocks s).agreement = s.agreement := rfl
@[simp] theorem State.leaveBlocks_notices (s : State) : (State.leaveBlocks s).notices = s.notices := rfl
@[simp] theorem State.leaveBlocks_store (s : State) : (State.leaveBlocks s).store = s.store := rfl
@[simp] theorem State.leaveBlocks_pending (s : State) : (State.leaveBlocks s).pending = s.pending := rfl
@[simp] theorem State.leaveBlocks_slots (s : State) : (State.leaveBlocks s).slots = s.slots := rfl

@[simp] theorem State.leaveLine_inReset (s : State) : (State.leaveLine s).inReset = s.inReset := rfl
@[simp] theorem State.leaveLine_agreement (s : State) : (State.leaveLine s).agreement = s.agreement := rfl
@[simp] theorem State.leaveLine_notices (s : State) : (State.leaveLine s).notices = s.notices := rfl
@[simp] theorem State.leaveLine_store (s : State) : (State.leaveLine s).store = s.store := rfl
@[simp] theorem State.leaveLine_pending (s : State) : (State.leaveLine s).pending = s.pending := rfl

@[simp] theorem State.leaveMembership_inReset (s : State) : (State.leaveMembership s).inReset = s.inReset := rfl
@[simp] theorem State.leaveMembership_bus (s : State) : (State.leaveMembership s).bus = s.bus := rfl
@[simp] theorem State.leaveMembership_slots (s : State) : (State.leaveMembership s).slots = s.slots := rfl
@[simp] theorem State.leaveMembership_assembled (s : State) : (State.leaveMembership s).assembled = s.assembled := rfl
@[simp] theorem State.leaveMembership_agreement (s : State) : (State.leaveMembership s).agreement = s.agreement := rfl
@[simp] theorem State.leaveMembership_notices (s : State) : (State.leaveMembership s).notices = s.notices := rfl
@[simp] theorem State.leaveMembership_store (s : State) : (State.leaveMembership s).store = s.store := rfl
@[simp] theorem State.leaveMembership_pending (s : State) : (State.leaveMembership s).pending = s.pending := rfl

@[simp] theorem State.startListening_inReset (s : State) : (State.startListening s).inReset = s.inReset := rfl
@[simp] theorem State.startListening_slots (s : State) : (State.startListening s).slots = s.slots := rfl
@[simp] theorem State.startListening_assembled (s : State) : (State.startListening s).assembled = s.assembled := rfl
@[simp] theorem State.startListening_roster (s : State) : (State.startListening s).roster = s.roster := rfl
@[simp] theorem State.startListening_agreement (s : State) : (State.startListening s).agreement = s.agreement := rfl
@[simp] theorem State.startListening_claims (s : State) : (State.startListening s).claims = s.claims := rfl
@[simp] theorem State.startListening_reference (s : State) : (State.startListening s).reference = s.reference := rfl
@[simp] theorem State.startListening_port (s : State) : (State.startListening s).port = s.port := rfl
@[simp] theorem State.startListening_store (s : State) : (State.startListening s).store = s.store := rfl
@[simp] theorem State.startListening_pending (s : State) : (State.startListening s).pending = s.pending := rfl

@[simp] theorem State.adoptTiming_inReset (s : State) (f : Frame) (endTime bytes : Nat) :
    (State.adoptTiming s f endTime bytes).inReset = s.inReset := rfl
@[simp] theorem State.adoptTiming_bus (s : State) (f : Frame) (endTime bytes : Nat) : (State.adoptTiming s f endTime bytes).bus = s.bus :=
    rfl
@[simp] theorem State.adoptTiming_assembled (s : State) (f : Frame) (endTime bytes : Nat) :
    (State.adoptTiming s f endTime bytes).assembled = s.assembled := rfl
@[simp] theorem State.adoptTiming_life (s : State) (f : Frame) (endTime bytes : Nat) : (State.adoptTiming s f endTime bytes).life = s.life :=
    rfl
@[simp] theorem State.adoptTiming_roster (s : State) (f : Frame) (endTime bytes : Nat) :
    (State.adoptTiming s f endTime bytes).roster = s.roster := rfl
@[simp] theorem State.adoptTiming_agreement (s : State) (f : Frame) (endTime bytes : Nat) :
    (State.adoptTiming s f endTime bytes).agreement = s.agreement := rfl
@[simp] theorem State.adoptTiming_claims (s : State) (f : Frame) (endTime bytes : Nat) :
    (State.adoptTiming s f endTime bytes).claims = s.claims := rfl
@[simp] theorem State.adoptTiming_reference (s : State) (f : Frame) (endTime bytes : Nat) :
    (State.adoptTiming s f endTime bytes).reference = s.reference := rfl
@[simp] theorem State.adoptTiming_follower (s : State) (f : Frame) (endTime bytes : Nat) :
    (State.adoptTiming s f endTime bytes).follower = s.follower := rfl
@[simp] theorem State.adoptTiming_port (s : State) (f : Frame) (endTime bytes : Nat) : (State.adoptTiming s f endTime bytes).port = s.port :=
    rfl
@[simp] theorem State.adoptTiming_notices (s : State) (f : Frame) (endTime bytes : Nat) :
    (State.adoptTiming s f endTime bytes).notices = s.notices := rfl
@[simp] theorem State.adoptTiming_store (s : State) (f : Frame) (endTime bytes : Nat) :
    (State.adoptTiming s f endTime bytes).store = s.store := rfl
@[simp] theorem State.adoptTiming_pending (s : State) (f : Frame) (endTime bytes : Nat) :
    (State.adoptTiming s f endTime bytes).pending = s.pending := rfl

@[simp] theorem State.startJoining_inReset (s : State) (f : Frame) (endTime bytes : Nat) :
    (State.startJoining s f endTime bytes).inReset = s.inReset := rfl
@[simp] theorem State.startJoining_bus (s : State) (f : Frame) (endTime bytes : Nat) : (State.startJoining s f endTime bytes).bus = s.bus :=
    rfl
@[simp] theorem State.startJoining_assembled (s : State) (f : Frame) (endTime bytes : Nat) :
    (State.startJoining s f endTime bytes).assembled = s.assembled := rfl
@[simp] theorem State.startJoining_roster (s : State) (f : Frame) (endTime bytes : Nat) :
    (State.startJoining s f endTime bytes).roster = s.roster := rfl
@[simp] theorem State.startJoining_agreement (s : State) (f : Frame) (endTime bytes : Nat) :
    (State.startJoining s f endTime bytes).agreement = s.agreement := rfl
@[simp] theorem State.startJoining_claims (s : State) (f : Frame) (endTime bytes : Nat) :
    (State.startJoining s f endTime bytes).claims = s.claims := rfl
@[simp] theorem State.startJoining_port (s : State) (f : Frame) (endTime bytes : Nat) :
    (State.startJoining s f endTime bytes).port = s.port := rfl
@[simp] theorem State.startJoining_store (s : State) (f : Frame) (endTime bytes : Nat) :
    (State.startJoining s f endTime bytes).store = s.store := rfl
@[simp] theorem State.startJoining_pending (s : State) (f : Frame) (endTime bytes : Nat) :
    (State.startJoining s f endTime bytes).pending = s.pending := rfl

@[simp] theorem State.foundLine_inReset (s : State) : (State.foundLine s).inReset = s.inReset := rfl
@[simp] theorem State.foundLine_bus (s : State) : (State.foundLine s).bus = s.bus := rfl
@[simp] theorem State.foundLine_assembled (s : State) : (State.foundLine s).assembled = s.assembled := rfl
@[simp] theorem State.foundLine_agreement (s : State) : (State.foundLine s).agreement = s.agreement := rfl
@[simp] theorem State.foundLine_claims (s : State) : (State.foundLine s).claims = s.claims := rfl
@[simp] theorem State.foundLine_port (s : State) : (State.foundLine s).port = s.port := rfl
@[simp] theorem State.foundLine_store (s : State) : (State.foundLine s).store = s.store := rfl
@[simp] theorem State.foundLine_pending (s : State) : (State.foundLine s).pending = s.pending := rfl

@[simp] theorem State.restartWindow_inReset (s : State) : (State.restartWindow s).inReset = s.inReset := rfl
@[simp] theorem State.restartWindow_bus (s : State) : (State.restartWindow s).bus = s.bus := rfl
@[simp] theorem State.restartWindow_slots (s : State) : (State.restartWindow s).slots = s.slots := rfl
@[simp] theorem State.restartWindow_assembled (s : State) : (State.restartWindow s).assembled = s.assembled := rfl
@[simp] theorem State.restartWindow_roster (s : State) : (State.restartWindow s).roster = s.roster := rfl
@[simp] theorem State.restartWindow_agreement (s : State) : (State.restartWindow s).agreement = s.agreement := rfl
@[simp] theorem State.restartWindow_claims (s : State) : (State.restartWindow s).claims = s.claims := rfl
@[simp] theorem State.restartWindow_reference (s : State) : (State.restartWindow s).reference = s.reference := rfl
@[simp] theorem State.restartWindow_follower (s : State) : (State.restartWindow s).follower = s.follower := rfl
@[simp] theorem State.restartWindow_port (s : State) : (State.restartWindow s).port = s.port := rfl
@[simp] theorem State.restartWindow_notices (s : State) : (State.restartWindow s).notices = s.notices := rfl
@[simp] theorem State.restartWindow_store (s : State) : (State.restartWindow s).store = s.store := rfl
@[simp] theorem State.restartWindow_pending (s : State) : (State.restartWindow s).pending = s.pending := rfl

@[simp] theorem State.takeEvidence_inReset (s : State) (f : Frame) : (State.takeEvidence s f).inReset = s.inReset := rfl
@[simp] theorem State.takeEvidence_bus (s : State) (f : Frame) : (State.takeEvidence s f).bus = s.bus := rfl
@[simp] theorem State.takeEvidence_slots (s : State) (f : Frame) : (State.takeEvidence s f).slots = s.slots := rfl
@[simp] theorem State.takeEvidence_assembled (s : State) (f : Frame) : (State.takeEvidence s f).assembled = s.assembled := rfl
@[simp] theorem State.takeEvidence_roster (s : State) (f : Frame) : (State.takeEvidence s f).roster = s.roster := rfl
@[simp] theorem State.takeEvidence_agreement (s : State) (f : Frame) : (State.takeEvidence s f).agreement = s.agreement := rfl
@[simp] theorem State.takeEvidence_claims (s : State) (f : Frame) : (State.takeEvidence s f).claims = s.claims := rfl
@[simp] theorem State.takeEvidence_reference (s : State) (f : Frame) : (State.takeEvidence s f).reference = s.reference := rfl
@[simp] theorem State.takeEvidence_follower (s : State) (f : Frame) : (State.takeEvidence s f).follower = s.follower := rfl
@[simp] theorem State.takeEvidence_port (s : State) (f : Frame) : (State.takeEvidence s f).port = s.port := rfl
@[simp] theorem State.takeEvidence_notices (s : State) (f : Frame) : (State.takeEvidence s f).notices = s.notices := rfl
@[simp] theorem State.takeEvidence_store (s : State) (f : Frame) : (State.takeEvidence s f).store = s.store := rfl
@[simp] theorem State.takeEvidence_pending (s : State) (f : Frame) : (State.takeEvidence s f).pending = s.pending := rfl

@[simp] theorem State.setCycleMismatch_inReset (s : State) (k : Station) (flag : Bool) :
    (State.setCycleMismatch s k flag).inReset = s.inReset := rfl
@[simp] theorem State.setCycleMismatch_bus (s : State) (k : Station) (flag : Bool) : (State.setCycleMismatch s k flag).bus = s.bus := rfl
@[simp] theorem State.setCycleMismatch_slots (s : State) (k : Station) (flag : Bool) : (State.setCycleMismatch s k flag).slots = s.slots :=
    rfl
@[simp] theorem State.setCycleMismatch_assembled (s : State) (k : Station) (flag : Bool) :
    (State.setCycleMismatch s k flag).assembled = s.assembled := rfl
@[simp] theorem State.setCycleMismatch_life (s : State) (k : Station) (flag : Bool) : (State.setCycleMismatch s k flag).life = s.life :=
    rfl
@[simp] theorem State.setCycleMismatch_agreement (s : State) (k : Station) (flag : Bool) :
    (State.setCycleMismatch s k flag).agreement = s.agreement := rfl
@[simp] theorem State.setCycleMismatch_claims (s : State) (k : Station) (flag : Bool) :
    (State.setCycleMismatch s k flag).claims = s.claims := rfl
@[simp] theorem State.setCycleMismatch_reference (s : State) (k : Station) (flag : Bool) :
    (State.setCycleMismatch s k flag).reference = s.reference := rfl
@[simp] theorem State.setCycleMismatch_follower (s : State) (k : Station) (flag : Bool) :
    (State.setCycleMismatch s k flag).follower = s.follower := rfl
@[simp] theorem State.setCycleMismatch_port (s : State) (k : Station) (flag : Bool) : (State.setCycleMismatch s k flag).port = s.port :=
    rfl
@[simp] theorem State.setCycleMismatch_notices (s : State) (k : Station) (flag : Bool) :
    (State.setCycleMismatch s k flag).notices = s.notices := rfl
@[simp] theorem State.setCycleMismatch_store (s : State) (k : Station) (flag : Bool) : (State.setCycleMismatch s k flag).store = s.store :=
    rfl
@[simp] theorem State.setCycleMismatch_pending (s : State) (k : Station) (flag : Bool) :
    (State.setCycleMismatch s k flag).pending = s.pending := rfl

@[simp] theorem State.setOutside_inReset (s : State) (k : Station) (state : EntryState) : (State.setOutside s k state).inReset = s.inReset :=
    rfl
@[simp] theorem State.setOutside_bus (s : State) (k : Station) (state : EntryState) : (State.setOutside s k state).bus = s.bus := rfl
@[simp] theorem State.setOutside_slots (s : State) (k : Station) (state : EntryState) : (State.setOutside s k state).slots = s.slots :=
    rfl
@[simp] theorem State.setOutside_assembled (s : State) (k : Station) (state : EntryState) :
    (State.setOutside s k state).assembled = s.assembled := rfl
@[simp] theorem State.setOutside_life (s : State) (k : Station) (state : EntryState) : (State.setOutside s k state).life = s.life := rfl
@[simp] theorem State.setOutside_agreement (s : State) (k : Station) (state : EntryState) :
    (State.setOutside s k state).agreement = s.agreement := rfl
@[simp] theorem State.setOutside_claims (s : State) (k : Station) (state : EntryState) : (State.setOutside s k state).claims = s.claims :=
    rfl
@[simp] theorem State.setOutside_reference (s : State) (k : Station) (state : EntryState) :
    (State.setOutside s k state).reference = s.reference := rfl
@[simp] theorem State.setOutside_follower (s : State) (k : Station) (state : EntryState) :
    (State.setOutside s k state).follower = s.follower := rfl
@[simp] theorem State.setOutside_port (s : State) (k : Station) (state : EntryState) : (State.setOutside s k state).port = s.port := rfl
@[simp] theorem State.setOutside_notices (s : State) (k : Station) (state : EntryState) : (State.setOutside s k state).notices = s.notices :=
    rfl
@[simp] theorem State.setOutside_store (s : State) (k : Station) (state : EntryState) : (State.setOutside s k state).store = s.store :=
    rfl
@[simp] theorem State.setOutside_pending (s : State) (k : Station) (state : EntryState) : (State.setOutside s k state).pending = s.pending :=
    rfl

@[simp] theorem State.beginCycle_inReset (s : State) (t : Timing) : (State.beginCycle s t).inReset = s.inReset := rfl
@[simp] theorem State.beginCycle_bus (s : State) (t : Timing) : (State.beginCycle s t).bus = s.bus := rfl
@[simp] theorem State.beginCycle_assembled (s : State) (t : Timing) : (State.beginCycle s t).assembled = s.assembled := rfl
@[simp] theorem State.beginCycle_life (s : State) (t : Timing) : (State.beginCycle s t).life = s.life := rfl
@[simp] theorem State.beginCycle_agreement (s : State) (t : Timing) : (State.beginCycle s t).agreement = s.agreement := rfl
@[simp] theorem State.beginCycle_claims (s : State) (t : Timing) : (State.beginCycle s t).claims = s.claims := rfl
@[simp] theorem State.beginCycle_follower (s : State) (t : Timing) : (State.beginCycle s t).follower = s.follower := rfl
@[simp] theorem State.beginCycle_port (s : State) (t : Timing) : (State.beginCycle s t).port = s.port := rfl
@[simp] theorem State.beginCycle_notices (s : State) (t : Timing) : (State.beginCycle s t).notices = s.notices := rfl
@[simp] theorem State.beginCycle_store (s : State) (t : Timing) : (State.beginCycle s t).store = s.store := rfl
@[simp] theorem State.beginCycle_pending (s : State) (t : Timing) : (State.beginCycle s t).pending = s.pending := rfl

@[simp] theorem State.drivePermit_inReset (s : State) : (State.drivePermit s).inReset = s.inReset := rfl
@[simp] theorem State.drivePermit_bus (s : State) : (State.drivePermit s).bus = s.bus := rfl
@[simp] theorem State.drivePermit_slots (s : State) : (State.drivePermit s).slots = s.slots := rfl
@[simp] theorem State.drivePermit_assembled (s : State) : (State.drivePermit s).assembled = s.assembled := rfl
@[simp] theorem State.drivePermit_life (s : State) : (State.drivePermit s).life = s.life := rfl
@[simp] theorem State.drivePermit_roster (s : State) : (State.drivePermit s).roster = s.roster := rfl
@[simp] theorem State.drivePermit_agreement (s : State) : (State.drivePermit s).agreement = s.agreement := rfl
@[simp] theorem State.drivePermit_reference (s : State) : (State.drivePermit s).reference = s.reference := rfl
@[simp] theorem State.drivePermit_follower (s : State) : (State.drivePermit s).follower = s.follower := rfl
@[simp] theorem State.drivePermit_port (s : State) : (State.drivePermit s).port = s.port := rfl
@[simp] theorem State.drivePermit_notices (s : State) : (State.drivePermit s).notices = s.notices := rfl
@[simp] theorem State.drivePermit_store (s : State) : (State.drivePermit s).store = s.store := rfl
@[simp] theorem State.drivePermit_pending (s : State) : (State.drivePermit s).pending = s.pending := rfl

@[simp] theorem State.bringRecordForward_inReset (s : State) : (State.bringRecordForward s).1.inReset = s.inReset := rfl
@[simp] theorem State.bringRecordForward_bus (s : State) : (State.bringRecordForward s).1.bus = s.bus := rfl
@[simp] theorem State.bringRecordForward_slots (s : State) : (State.bringRecordForward s).1.slots = s.slots := rfl
@[simp] theorem State.bringRecordForward_assembled (s : State) : (State.bringRecordForward s).1.assembled = s.assembled := rfl
@[simp] theorem State.bringRecordForward_life (s : State) : (State.bringRecordForward s).1.life = s.life := rfl
@[simp] theorem State.bringRecordForward_roster (s : State) : (State.bringRecordForward s).1.roster = s.roster := rfl
@[simp] theorem State.bringRecordForward_agreement (s : State) : (State.bringRecordForward s).1.agreement = s.agreement := rfl
@[simp] theorem State.bringRecordForward_claims (s : State) : (State.bringRecordForward s).1.claims = s.claims := rfl
@[simp] theorem State.bringRecordForward_follower (s : State) : (State.bringRecordForward s).1.follower = s.follower := rfl
@[simp] theorem State.bringRecordForward_port (s : State) : (State.bringRecordForward s).1.port = s.port := rfl
@[simp] theorem State.bringRecordForward_notices (s : State) : (State.bringRecordForward s).1.notices = s.notices := rfl
@[simp] theorem State.bringRecordForward_store (s : State) : (State.bringRecordForward s).1.store = s.store := rfl
@[simp] theorem State.bringRecordForward_pending (s : State) : (State.bringRecordForward s).1.pending = s.pending := rfl

@[simp] theorem State.pruneIslands_inReset (s : State) : (State.pruneIslands s).inReset = s.inReset := rfl
@[simp] theorem State.pruneIslands_bus (s : State) : (State.pruneIslands s).bus = s.bus := rfl
@[simp] theorem State.pruneIslands_slots (s : State) : (State.pruneIslands s).slots = s.slots := rfl
@[simp] theorem State.pruneIslands_assembled (s : State) : (State.pruneIslands s).assembled = s.assembled := rfl
@[simp] theorem State.pruneIslands_roster (s : State) : (State.pruneIslands s).roster = s.roster := rfl
@[simp] theorem State.pruneIslands_agreement (s : State) : (State.pruneIslands s).agreement = s.agreement := rfl
@[simp] theorem State.pruneIslands_claims (s : State) : (State.pruneIslands s).claims = s.claims := rfl
@[simp] theorem State.pruneIslands_reference (s : State) : (State.pruneIslands s).reference = s.reference := rfl
@[simp] theorem State.pruneIslands_follower (s : State) : (State.pruneIslands s).follower = s.follower := rfl
@[simp] theorem State.pruneIslands_port (s : State) : (State.pruneIslands s).port = s.port := rfl
@[simp] theorem State.pruneIslands_notices (s : State) : (State.pruneIslands s).notices = s.notices := rfl
@[simp] theorem State.pruneIslands_store (s : State) : (State.pruneIslands s).store = s.store := rfl
@[simp] theorem State.pruneIslands_pending (s : State) : (State.pruneIslands s).pending = s.pending := rfl

@[simp] theorem State.joiningBoundary_inReset (s : State) : (State.joiningBoundary s).inReset = s.inReset := rfl
@[simp] theorem State.joiningBoundary_bus (s : State) : (State.joiningBoundary s).bus = s.bus := rfl
@[simp] theorem State.joiningBoundary_slots (s : State) : (State.joiningBoundary s).slots = s.slots := rfl
@[simp] theorem State.joiningBoundary_assembled (s : State) : (State.joiningBoundary s).assembled = s.assembled := rfl
@[simp] theorem State.joiningBoundary_roster (s : State) : (State.joiningBoundary s).roster = s.roster := rfl
@[simp] theorem State.joiningBoundary_claims (s : State) : (State.joiningBoundary s).claims = s.claims := rfl
@[simp] theorem State.joiningBoundary_reference (s : State) : (State.joiningBoundary s).reference = s.reference := rfl
@[simp] theorem State.joiningBoundary_port (s : State) : (State.joiningBoundary s).port = s.port := rfl
@[simp] theorem State.joiningBoundary_notices (s : State) : (State.joiningBoundary s).notices = s.notices := rfl
@[simp] theorem State.joiningBoundary_store (s : State) : (State.joiningBoundary s).store = s.store := rfl
@[simp] theorem State.joiningBoundary_pending (s : State) : (State.joiningBoundary s).pending = s.pending := rfl

@[simp] theorem State.markOwnClaims_inReset (s : State) : (State.markOwnClaims s).inReset = s.inReset := rfl
@[simp] theorem State.markOwnClaims_bus (s : State) : (State.markOwnClaims s).bus = s.bus := rfl
@[simp] theorem State.markOwnClaims_slots (s : State) : (State.markOwnClaims s).slots = s.slots := rfl
@[simp] theorem State.markOwnClaims_assembled (s : State) : (State.markOwnClaims s).assembled = s.assembled := rfl
@[simp] theorem State.markOwnClaims_life (s : State) : (State.markOwnClaims s).life = s.life := rfl
@[simp] theorem State.markOwnClaims_roster (s : State) : (State.markOwnClaims s).roster = s.roster := rfl
@[simp] theorem State.markOwnClaims_agreement (s : State) : (State.markOwnClaims s).agreement = s.agreement := rfl
@[simp] theorem State.markOwnClaims_reference (s : State) : (State.markOwnClaims s).reference = s.reference := rfl
@[simp] theorem State.markOwnClaims_follower (s : State) : (State.markOwnClaims s).follower = s.follower := rfl
@[simp] theorem State.markOwnClaims_port (s : State) : (State.markOwnClaims s).port = s.port := rfl
@[simp] theorem State.markOwnClaims_notices (s : State) : (State.markOwnClaims s).notices = s.notices := rfl
@[simp] theorem State.markOwnClaims_store (s : State) : (State.markOwnClaims s).store = s.store := rfl
@[simp] theorem State.markOwnClaims_pending (s : State) : (State.markOwnClaims s).pending = s.pending := rfl

@[simp] theorem State.claimsSlot_inReset (s : State) : (State.claimsSlot s).inReset = s.inReset := rfl
@[simp] theorem State.claimsSlot_bus (s : State) : (State.claimsSlot s).bus = s.bus := rfl
@[simp] theorem State.claimsSlot_slots (s : State) : (State.claimsSlot s).slots = s.slots := rfl
@[simp] theorem State.claimsSlot_assembled (s : State) : (State.claimsSlot s).assembled = s.assembled := rfl
@[simp] theorem State.claimsSlot_life (s : State) : (State.claimsSlot s).life = s.life := rfl
@[simp] theorem State.claimsSlot_roster (s : State) : (State.claimsSlot s).roster = s.roster := rfl
@[simp] theorem State.claimsSlot_agreement (s : State) : (State.claimsSlot s).agreement = s.agreement := rfl
@[simp] theorem State.claimsSlot_reference (s : State) : (State.claimsSlot s).reference = s.reference := rfl
@[simp] theorem State.claimsSlot_follower (s : State) : (State.claimsSlot s).follower = s.follower := rfl
@[simp] theorem State.claimsSlot_port (s : State) : (State.claimsSlot s).port = s.port := rfl
@[simp] theorem State.claimsSlot_notices (s : State) : (State.claimsSlot s).notices = s.notices := rfl
@[simp] theorem State.claimsSlot_store (s : State) : (State.claimsSlot s).store = s.store := rfl
@[simp] theorem State.claimsSlot_pending (s : State) : (State.claimsSlot s).pending = s.pending := rfl

@[simp] theorem State.setReceipt_inReset (s : State) (r : Option Receipt) : (State.setReceipt s r).inReset = s.inReset := rfl
@[simp] theorem State.setReceipt_slots (s : State) (r : Option Receipt) : (State.setReceipt s r).slots = s.slots := rfl
@[simp] theorem State.setReceipt_assembled (s : State) (r : Option Receipt) : (State.setReceipt s r).assembled = s.assembled := rfl
@[simp] theorem State.setReceipt_life (s : State) (r : Option Receipt) : (State.setReceipt s r).life = s.life := rfl
@[simp] theorem State.setReceipt_roster (s : State) (r : Option Receipt) : (State.setReceipt s r).roster = s.roster := rfl
@[simp] theorem State.setReceipt_agreement (s : State) (r : Option Receipt) : (State.setReceipt s r).agreement = s.agreement := rfl
@[simp] theorem State.setReceipt_claims (s : State) (r : Option Receipt) : (State.setReceipt s r).claims = s.claims := rfl
@[simp] theorem State.setReceipt_reference (s : State) (r : Option Receipt) : (State.setReceipt s r).reference = s.reference := rfl
@[simp] theorem State.setReceipt_follower (s : State) (r : Option Receipt) : (State.setReceipt s r).follower = s.follower := rfl
@[simp] theorem State.setReceipt_port (s : State) (r : Option Receipt) : (State.setReceipt s r).port = s.port := rfl
@[simp] theorem State.setReceipt_notices (s : State) (r : Option Receipt) : (State.setReceipt s r).notices = s.notices := rfl
@[simp] theorem State.setReceipt_store (s : State) (r : Option Receipt) : (State.setReceipt s r).store = s.store := rfl
@[simp] theorem State.setReceipt_pending (s : State) (r : Option Receipt) : (State.setReceipt s r).pending = s.pending := rfl

@[simp] theorem State.abandon_inReset (s : State) (why : AbandonReason) : (State.abandon s why).inReset = s.inReset := rfl
@[simp] theorem State.abandon_slots (s : State) (why : AbandonReason) : (State.abandon s why).slots = s.slots := rfl
@[simp] theorem State.abandon_assembled (s : State) (why : AbandonReason) : (State.abandon s why).assembled = s.assembled := rfl
@[simp] theorem State.abandon_life (s : State) (why : AbandonReason) : (State.abandon s why).life = s.life := rfl
@[simp] theorem State.abandon_roster (s : State) (why : AbandonReason) : (State.abandon s why).roster = s.roster := rfl
@[simp] theorem State.abandon_agreement (s : State) (why : AbandonReason) : (State.abandon s why).agreement = s.agreement := rfl
@[simp] theorem State.abandon_claims (s : State) (why : AbandonReason) : (State.abandon s why).claims = s.claims := rfl
@[simp] theorem State.abandon_reference (s : State) (why : AbandonReason) : (State.abandon s why).reference = s.reference := rfl
@[simp] theorem State.abandon_follower (s : State) (why : AbandonReason) : (State.abandon s why).follower = s.follower := rfl
@[simp] theorem State.abandon_port (s : State) (why : AbandonReason) : (State.abandon s why).port = s.port := rfl
@[simp] theorem State.abandon_notices (s : State) (why : AbandonReason) : (State.abandon s why).notices = s.notices := rfl
@[simp] theorem State.abandon_store (s : State) (why : AbandonReason) : (State.abandon s why).store = s.store := rfl
@[simp] theorem State.abandon_pending (s : State) (why : AbandonReason) : (State.abandon s why).pending = s.pending := rfl

@[simp] theorem State.abandonOnGap_inReset (s : State) : (State.abandonOnGap s).inReset = s.inReset := rfl
@[simp] theorem State.abandonOnGap_slots (s : State) : (State.abandonOnGap s).slots = s.slots := rfl
@[simp] theorem State.abandonOnGap_assembled (s : State) : (State.abandonOnGap s).assembled = s.assembled := rfl
@[simp] theorem State.abandonOnGap_life (s : State) : (State.abandonOnGap s).life = s.life := rfl
@[simp] theorem State.abandonOnGap_roster (s : State) : (State.abandonOnGap s).roster = s.roster := rfl
@[simp] theorem State.abandonOnGap_agreement (s : State) : (State.abandonOnGap s).agreement = s.agreement := rfl
@[simp] theorem State.abandonOnGap_claims (s : State) : (State.abandonOnGap s).claims = s.claims := rfl
@[simp] theorem State.abandonOnGap_reference (s : State) : (State.abandonOnGap s).reference = s.reference := rfl
@[simp] theorem State.abandonOnGap_follower (s : State) : (State.abandonOnGap s).follower = s.follower := rfl
@[simp] theorem State.abandonOnGap_port (s : State) : (State.abandonOnGap s).port = s.port := rfl
@[simp] theorem State.abandonOnGap_notices (s : State) : (State.abandonOnGap s).notices = s.notices := rfl
@[simp] theorem State.abandonOnGap_store (s : State) : (State.abandonOnGap s).store = s.store := rfl
@[simp] theorem State.abandonOnGap_pending (s : State) : (State.abandonOnGap s).pending = s.pending := rfl

@[simp] theorem State.endTransaction_inReset (s : State) : (State.endTransaction s).inReset = s.inReset := rfl
@[simp] theorem State.endTransaction_bus (s : State) : (State.endTransaction s).bus = s.bus := rfl
@[simp] theorem State.endTransaction_slots (s : State) : (State.endTransaction s).slots = s.slots := rfl
@[simp] theorem State.endTransaction_assembled (s : State) : (State.endTransaction s).assembled = s.assembled := rfl
@[simp] theorem State.endTransaction_life (s : State) : (State.endTransaction s).life = s.life := rfl
@[simp] theorem State.endTransaction_roster (s : State) : (State.endTransaction s).roster = s.roster := rfl
@[simp] theorem State.endTransaction_agreement (s : State) : (State.endTransaction s).agreement = s.agreement := rfl
@[simp] theorem State.endTransaction_claims (s : State) : (State.endTransaction s).claims = s.claims := rfl
@[simp] theorem State.endTransaction_reference (s : State) : (State.endTransaction s).reference = s.reference := rfl
@[simp] theorem State.endTransaction_follower (s : State) : (State.endTransaction s).follower = s.follower := rfl
@[simp] theorem State.endTransaction_notices (s : State) : (State.endTransaction s).notices = s.notices := rfl
@[simp] theorem State.endTransaction_store (s : State) : (State.endTransaction s).store = s.store := rfl
@[simp] theorem State.endTransaction_pending (s : State) : (State.endTransaction s).pending = s.pending := rfl

@[simp] theorem State.beginProcessing_inReset (s : State) (kind : Byte) (answer : Option (Result × List Byte)) :
    (State.beginProcessing s kind answer).inReset = s.inReset := rfl
@[simp] theorem State.beginProcessing_bus (s : State) (kind : Byte) (answer : Option (Result × List Byte)) :
    (State.beginProcessing s kind answer).bus = s.bus := rfl
@[simp] theorem State.beginProcessing_slots (s : State) (kind : Byte) (answer : Option (Result × List Byte)) :
    (State.beginProcessing s kind answer).slots = s.slots := rfl
@[simp] theorem State.beginProcessing_assembled (s : State) (kind : Byte) (answer : Option (Result × List Byte)) :
    (State.beginProcessing s kind answer).assembled = s.assembled := rfl
@[simp] theorem State.beginProcessing_life (s : State) (kind : Byte) (answer : Option (Result × List Byte)) :
    (State.beginProcessing s kind answer).life = s.life := rfl
@[simp] theorem State.beginProcessing_roster (s : State) (kind : Byte) (answer : Option (Result × List Byte)) :
    (State.beginProcessing s kind answer).roster = s.roster := rfl
@[simp] theorem State.beginProcessing_agreement (s : State) (kind : Byte) (answer : Option (Result × List Byte)) :
    (State.beginProcessing s kind answer).agreement = s.agreement := rfl
@[simp] theorem State.beginProcessing_claims (s : State) (kind : Byte) (answer : Option (Result × List Byte)) :
    (State.beginProcessing s kind answer).claims = s.claims := rfl
@[simp] theorem State.beginProcessing_reference (s : State) (kind : Byte) (answer : Option (Result × List Byte)) :
    (State.beginProcessing s kind answer).reference = s.reference := rfl
@[simp] theorem State.beginProcessing_follower (s : State) (kind : Byte) (answer : Option (Result × List Byte)) :
    (State.beginProcessing s kind answer).follower = s.follower := rfl
@[simp] theorem State.beginProcessing_notices (s : State) (kind : Byte) (answer : Option (Result × List Byte)) :
    (State.beginProcessing s kind answer).notices = s.notices := rfl
@[simp] theorem State.beginProcessing_store (s : State) (kind : Byte) (answer : Option (Result × List Byte)) :
    (State.beginProcessing s kind answer).store = s.store := rfl
@[simp] theorem State.beginProcessing_pending (s : State) (kind : Byte) (answer : Option (Result × List Byte)) :
    (State.beginProcessing s kind answer).pending = s.pending := rfl

@[simp] theorem State.setManualHold_inReset (hold : Bool) (s : State) : (State.setManualHold hold s).inReset = s.inReset := rfl
@[simp] theorem State.setManualHold_bus (hold : Bool) (s : State) : (State.setManualHold hold s).bus = s.bus := rfl
@[simp] theorem State.setManualHold_slots (hold : Bool) (s : State) : (State.setManualHold hold s).slots = s.slots := rfl
@[simp] theorem State.setManualHold_assembled (hold : Bool) (s : State) : (State.setManualHold hold s).assembled = s.assembled := rfl
@[simp] theorem State.setManualHold_life (hold : Bool) (s : State) : (State.setManualHold hold s).life = s.life := rfl
@[simp] theorem State.setManualHold_roster (hold : Bool) (s : State) : (State.setManualHold hold s).roster = s.roster := rfl
@[simp] theorem State.setManualHold_agreement (hold : Bool) (s : State) : (State.setManualHold hold s).agreement = s.agreement := rfl
@[simp] theorem State.setManualHold_reference (hold : Bool) (s : State) : (State.setManualHold hold s).reference = s.reference := rfl
@[simp] theorem State.setManualHold_follower (hold : Bool) (s : State) : (State.setManualHold hold s).follower = s.follower := rfl
@[simp] theorem State.setManualHold_port (hold : Bool) (s : State) : (State.setManualHold hold s).port = s.port := rfl
@[simp] theorem State.setManualHold_notices (hold : Bool) (s : State) : (State.setManualHold hold s).notices = s.notices := rfl
@[simp] theorem State.setManualHold_store (hold : Bool) (s : State) : (State.setManualHold hold s).store = s.store := rfl
@[simp] theorem State.setManualHold_pending (hold : Bool) (s : State) : (State.setManualHold hold s).pending = s.pending := rfl

@[simp] theorem State.answerStatus_inReset (s : State) : (State.answerStatus s).1.inReset = s.inReset := rfl
@[simp] theorem State.answerStatus_bus (s : State) : (State.answerStatus s).1.bus = s.bus := rfl
@[simp] theorem State.answerStatus_slots (s : State) : (State.answerStatus s).1.slots = s.slots := rfl
@[simp] theorem State.answerStatus_assembled (s : State) : (State.answerStatus s).1.assembled = s.assembled := rfl
@[simp] theorem State.answerStatus_life (s : State) : (State.answerStatus s).1.life = s.life := rfl
@[simp] theorem State.answerStatus_roster (s : State) : (State.answerStatus s).1.roster = s.roster := rfl
@[simp] theorem State.answerStatus_agreement (s : State) : (State.answerStatus s).1.agreement = s.agreement := rfl
@[simp] theorem State.answerStatus_claims (s : State) : (State.answerStatus s).1.claims = s.claims := rfl
@[simp] theorem State.answerStatus_reference (s : State) : (State.answerStatus s).1.reference = s.reference := rfl
@[simp] theorem State.answerStatus_follower (s : State) : (State.answerStatus s).1.follower = s.follower := rfl
@[simp] theorem State.answerStatus_port (s : State) : (State.answerStatus s).1.port = s.port := rfl
@[simp] theorem State.answerStatus_store (s : State) : (State.answerStatus s).1.store = s.store := rfl
@[simp] theorem State.answerStatus_pending (s : State) : (State.answerStatus s).1.pending = s.pending := rfl

@[simp] theorem State.takeLag_inReset (s : State) : (State.takeLag s).inReset = s.inReset := rfl
@[simp] theorem State.takeLag_bus (s : State) : (State.takeLag s).bus = s.bus := rfl
@[simp] theorem State.takeLag_slots (s : State) : (State.takeLag s).slots = s.slots := rfl
@[simp] theorem State.takeLag_assembled (s : State) : (State.takeLag s).assembled = s.assembled := rfl
@[simp] theorem State.takeLag_life (s : State) : (State.takeLag s).life = s.life := rfl
@[simp] theorem State.takeLag_roster (s : State) : (State.takeLag s).roster = s.roster := rfl
@[simp] theorem State.takeLag_agreement (s : State) : (State.takeLag s).agreement = s.agreement := rfl
@[simp] theorem State.takeLag_claims (s : State) : (State.takeLag s).claims = s.claims := rfl
@[simp] theorem State.takeLag_reference (s : State) : (State.takeLag s).reference = s.reference := rfl
@[simp] theorem State.takeLag_port (s : State) : (State.takeLag s).port = s.port := rfl
@[simp] theorem State.takeLag_notices (s : State) : (State.takeLag s).notices = s.notices := rfl
@[simp] theorem State.takeLag_store (s : State) : (State.takeLag s).store = s.store := rfl
@[simp] theorem State.takeLag_pending (s : State) : (State.takeLag s).pending = s.pending := rfl

@[simp] theorem Timing.passed_refStart (t : Timing) (n : Nat) (now : Int) : (t.passed n now).refStart = t.refStart := by simp only [Timing.passed]
@[simp] theorem Timing.passed_refSlot (t : Timing) (n : Nat) (now : Int) : (t.passed n now).refSlot = t.refSlot := by simp only [Timing.passed]
@[simp] theorem Timing.passed_closesRaised (t : Timing) (n : Nat) (now : Int) : (t.passed n now).closesRaised = t.closesRaised := by simp only [Timing.passed]
@[simp] theorem Timing.passed_ownStartRaised (t : Timing) (n : Nat) (now : Int) :
    (t.passed n now).ownStartRaised = t.ownStartRaised := by simp only [Timing.passed]
@[simp] theorem Timing.passed_lateClose (t : Timing) (n : Nat) (now : Int) : (t.passed n now).lateClose = t.lateClose := by simp only [Timing.passed]

@[simp] theorem State.passMicrosecond_cycle (s : State) : (State.passMicrosecond s).slots.cycle = s.slots.cycle := rfl
@[simp] theorem State.passMicrosecond_now (s : State) : (State.passMicrosecond s).slots.now = s.slots.now + 1 := rfl
@[simp] theorem State.passMicrosecond_timing (s : State) :
    (State.passMicrosecond s).slots.timing = s.slots.timing.map fun t => t.passed s.slotLength (s.slots.now + 1 : Nat) := rfl
@[simp] theorem State.passMicrosecond_inReset (s : State) : (State.passMicrosecond s).inReset = s.inReset := rfl
@[simp] theorem State.passMicrosecond_bus (s : State) : (State.passMicrosecond s).bus = s.bus := rfl
@[simp] theorem State.passMicrosecond_assembled (s : State) : (State.passMicrosecond s).assembled = s.assembled := rfl
@[simp] theorem State.passMicrosecond_roster (s : State) : (State.passMicrosecond s).roster = s.roster := rfl
@[simp] theorem State.passMicrosecond_agreement (s : State) : (State.passMicrosecond s).agreement = s.agreement := rfl
@[simp] theorem State.passMicrosecond_claims (s : State) : (State.passMicrosecond s).claims = s.claims := rfl
@[simp] theorem State.passMicrosecond_reference (s : State) : (State.passMicrosecond s).reference = s.reference := rfl
@[simp] theorem State.passMicrosecond_follower (s : State) : (State.passMicrosecond s).follower = s.follower := rfl
@[simp] theorem State.passMicrosecond_port (s : State) : (State.passMicrosecond s).port = s.port := rfl
@[simp] theorem State.passMicrosecond_notices (s : State) : (State.passMicrosecond s).notices = s.notices := rfl
@[simp] theorem State.passMicrosecond_store (s : State) : (State.passMicrosecond s).store = s.store := rfl
@[simp] theorem State.passMicrosecond_pending (s : State) : (State.passMicrosecond s).pending = s.pending := rfl

end Sys2Proof.Machine
end

