-- ==== Sys2Proof/Laws/Frames.lean ====
section
/-! SUPPORT. The frame of every other operation: the blocks that it leaves as they were, as one lemma an operation. -/

namespace Sys2Proof.Machine
open Sys2Proof

/-- What each step of a fold leaves alone, the fold leaves alone. -/
theorem foldl_field {α β : Type} {f : State → α → State} {g : State → β} (h : ∀ s a, g (f s a) = g s) (l : List α) (s : State) :
    g (l.foldl f s) = g s := by
  induction l generalizing s with
  | nil => rfl
  | cons a l ih => rw [List.foldl_cons, ih, h]

@[simp] theorem State.raise_frame (s : State) (cause : StopCause) :
    (State.raise s cause).inReset = s.inReset ∧ (State.raise s cause).bus = s.bus ∧ (State.raise s cause).slots = s.slots ∧
      (State.raise s cause).assembled = s.assembled ∧ (State.raise s cause).life = s.life ∧ (State.raise s cause).roster = s.roster ∧
      (State.raise s cause).agreement = s.agreement ∧ (State.raise s cause).reference = s.reference ∧
      (State.raise s cause).follower = s.follower ∧ (State.raise s cause).port = s.port ∧ (State.raise s cause).store = s.store ∧
      (State.raise s cause).pending = s.pending := by
  refine ⟨?_, ?_, ?_, ?_, ?_, ?_, ?_, ?_, ?_, ?_, ?_, ?_⟩ <;> (unfold State.raise; dsimp only; (repeat' split) <;> simp)

@[simp] theorem State.recogniseInput_frame (s : State) (n : Fin 4) (high : Bool) :
    (State.recogniseInput s n high).inReset = s.inReset ∧ (State.recogniseInput s n high).bus = s.bus ∧
      (State.recogniseInput s n high).slots = s.slots ∧ (State.recogniseInput s n high).assembled = s.assembled ∧
      (State.recogniseInput s n high).life = s.life ∧ (State.recogniseInput s n high).roster = s.roster ∧
      (State.recogniseInput s n high).agreement = s.agreement ∧ (State.recogniseInput s n high).reference = s.reference ∧
      (State.recogniseInput s n high).follower = s.follower ∧ (State.recogniseInput s n high).port = s.port ∧
      (State.recogniseInput s n high).store = s.store ∧ (State.recogniseInput s n high).pending = s.pending := by
  refine ⟨?_, ?_, ?_, ?_, ?_, ?_, ?_, ?_, ?_, ?_, ?_, ?_⟩ <;> (unfold State.recogniseInput; dsimp only; (repeat' split) <;> simp)

@[simp] theorem State.raiseActiveInputs_frame (s : State) :
    (State.raiseActiveInputs s).inReset = s.inReset ∧ (State.raiseActiveInputs s).bus = s.bus ∧
      (State.raiseActiveInputs s).slots = s.slots ∧ (State.raiseActiveInputs s).assembled = s.assembled ∧
      (State.raiseActiveInputs s).life = s.life ∧ (State.raiseActiveInputs s).roster = s.roster ∧
      (State.raiseActiveInputs s).agreement = s.agreement ∧ (State.raiseActiveInputs s).reference = s.reference ∧
      (State.raiseActiveInputs s).follower = s.follower ∧ (State.raiseActiveInputs s).port = s.port ∧
      (State.raiseActiveInputs s).store = s.store ∧ (State.raiseActiveInputs s).pending = s.pending := by
  refine ⟨?_, ?_, ?_, ?_, ?_, ?_, ?_, ?_, ?_, ?_, ?_, ?_⟩ <;> (unfold State.raiseActiveInputs; exact foldl_field (fun s a => by simp) _ _)

@[simp] theorem State.clearStop_frame (s : State) :
    (State.clearStop s).1.inReset = s.inReset ∧ (State.clearStop s).1.bus = s.bus ∧ (State.clearStop s).1.slots = s.slots ∧
      (State.clearStop s).1.assembled = s.assembled ∧ (State.clearStop s).1.life = s.life ∧ (State.clearStop s).1.roster = s.roster ∧
      (State.clearStop s).1.agreement = s.agreement ∧ (State.clearStop s).1.reference = s.reference ∧
      (State.clearStop s).1.follower = s.follower ∧ (State.clearStop s).1.port = s.port ∧ (State.clearStop s).1.store = s.store ∧
      (State.clearStop s).1.pending = s.pending := by
  refine ⟨?_, ?_, ?_, ?_, ?_, ?_, ?_, ?_, ?_, ?_, ?_, ?_⟩ <;> (unfold State.clearStop; dsimp only; (repeat' split) <;> simp)

@[simp] theorem State.postRampState_frame (s : State) :
    (State.postRampState s).inReset = s.inReset ∧ (State.postRampState s).bus = s.bus ∧ (State.postRampState s).slots = s.slots ∧
      (State.postRampState s).assembled = s.assembled ∧ (State.postRampState s).life = s.life ∧
      (State.postRampState s).roster = s.roster ∧ (State.postRampState s).agreement = s.agreement ∧
      (State.postRampState s).claims = s.claims ∧ (State.postRampState s).follower = s.follower ∧
      (State.postRampState s).port = s.port ∧ (State.postRampState s).store = s.store ∧
      (State.postRampState s).pending = s.pending := by
  refine ⟨?_, ?_, ?_, ?_, ?_, ?_, ?_, ?_, ?_, ?_, ?_, ?_⟩ <;> (unfold State.postRampState; dsimp only; (repeat' split) <;> simp)

@[simp] theorem State.lateStop_frame (s : State) :
    (State.lateStop s).inReset = s.inReset ∧ (State.lateStop s).bus = s.bus ∧ (State.lateStop s).slots = s.slots ∧
      (State.lateStop s).assembled = s.assembled ∧ (State.lateStop s).life = s.life ∧ (State.lateStop s).roster = s.roster ∧
      (State.lateStop s).agreement = s.agreement ∧ (State.lateStop s).claims = s.claims ∧ (State.lateStop s).follower = s.follower ∧
      (State.lateStop s).port = s.port ∧ (State.lateStop s).notices = s.notices ∧ (State.lateStop s).store = s.store ∧
      (State.lateStop s).pending = s.pending := by
  refine ⟨?_, ?_, ?_, ?_, ?_, ?_, ?_, ?_, ?_, ?_, ?_, ?_, ?_⟩ <;> (unfold State.lateStop; split <;> simp)

@[simp] theorem State.takeReferencePart_frame (s : State) (f : Frame) :
    (State.takeReferencePart s f).inReset = s.inReset ∧ (State.takeReferencePart s f).bus = s.bus ∧
      (State.takeReferencePart s f).slots = s.slots ∧ (State.takeReferencePart s f).assembled = s.assembled ∧
      (State.takeReferencePart s f).life = s.life ∧ (State.takeReferencePart s f).roster = s.roster ∧
      (State.takeReferencePart s f).agreement = s.agreement ∧ (State.takeReferencePart s f).follower = s.follower ∧
      (State.takeReferencePart s f).port = s.port ∧ (State.takeReferencePart s f).store = s.store ∧
      (State.takeReferencePart s f).pending = s.pending := by
  refine ⟨?_, ?_, ?_, ?_, ?_, ?_, ?_, ?_, ?_, ?_, ?_⟩ <;> (unfold State.takeReferencePart; dsimp only; (repeat' split) <;> simp)

@[simp] theorem State.firstHeardStop_frame (s : State) (k : Station) (r : ClaimRecord) (cause : StopCause) (e : Cycle) :
    (State.firstHeardStop s k r cause e).inReset = s.inReset ∧ (State.firstHeardStop s k r cause e).bus = s.bus ∧
      (State.firstHeardStop s k r cause e).slots = s.slots ∧ (State.firstHeardStop s k r cause e).assembled = s.assembled ∧
      (State.firstHeardStop s k r cause e).life = s.life ∧ (State.firstHeardStop s k r cause e).roster = s.roster ∧
      (State.firstHeardStop s k r cause e).agreement = s.agreement ∧ (State.firstHeardStop s k r cause e).follower = s.follower ∧
      (State.firstHeardStop s k r cause e).port = s.port ∧ (State.firstHeardStop s k r cause e).store = s.store ∧
      (State.firstHeardStop s k r cause e).pending = s.pending := by
  refine ⟨?_, ?_, ?_, ?_, ?_, ?_, ?_, ?_, ?_, ?_, ?_⟩ <;> (unfold State.firstHeardStop; dsimp only; (repeat' split) <;> simp)

@[simp] theorem State.createRecord_frame (s : State) (k : Station) (stop : Option (StopCause × Cycle)) (hold : Bool) (e : Cycle) :
    (State.createRecord s k stop hold e).inReset = s.inReset ∧ (State.createRecord s k stop hold e).bus = s.bus ∧
      (State.createRecord s k stop hold e).slots = s.slots ∧ (State.createRecord s k stop hold e).assembled = s.assembled ∧
      (State.createRecord s k stop hold e).life = s.life ∧ (State.createRecord s k stop hold e).roster = s.roster ∧
      (State.createRecord s k stop hold e).agreement = s.agreement ∧ (State.createRecord s k stop hold e).follower = s.follower ∧
      (State.createRecord s k stop hold e).port = s.port ∧ (State.createRecord s k stop hold e).store = s.store ∧
      (State.createRecord s k stop hold e).pending = s.pending := by
  refine ⟨?_, ?_, ?_, ?_, ?_, ?_, ?_, ?_, ?_, ?_, ?_⟩ <;> (unfold State.createRecord; split <;> simp)

@[simp] theorem State.takeReport_frame (s : State) (p : Position) (ready : Bool) :
    (State.takeReport s p ready).inReset = s.inReset ∧ (State.takeReport s p ready).bus = s.bus ∧
      (State.takeReport s p ready).slots = s.slots ∧ (State.takeReport s p ready).assembled = s.assembled ∧
      (State.takeReport s p ready).life = s.life ∧ (State.takeReport s p ready).roster = s.roster ∧
      (State.takeReport s p ready).agreement = s.agreement ∧ (State.takeReport s p ready).reference = s.reference ∧
      (State.takeReport s p ready).store = s.store ∧ (State.takeReport s p ready).pending = s.pending := by
  refine ⟨?_, ?_, ?_, ?_, ?_, ?_, ?_, ?_, ?_, ?_⟩ <;> (unfold State.takeReport; dsimp only; (repeat' split) <;> simp)

@[simp] theorem State.takeOffer_frame (s : State) (kind : OfferKind) (target : Speed) :
    (State.takeOffer s kind target).1.inReset = s.inReset ∧ (State.takeOffer s kind target).1.bus = s.bus ∧
      (State.takeOffer s kind target).1.slots = s.slots ∧ (State.takeOffer s kind target).1.assembled = s.assembled ∧
      (State.takeOffer s kind target).1.life = s.life ∧ (State.takeOffer s kind target).1.roster = s.roster ∧
      (State.takeOffer s kind target).1.claims = s.claims ∧ (State.takeOffer s kind target).1.reference = s.reference ∧
      (State.takeOffer s kind target).1.follower = s.follower ∧ (State.takeOffer s kind target).1.port = s.port ∧
      (State.takeOffer s kind target).1.notices = s.notices ∧ (State.takeOffer s kind target).1.store = s.store ∧
      (State.takeOffer s kind target).1.pending = s.pending := by
  refine ⟨?_, ?_, ?_, ?_, ?_, ?_, ?_, ?_, ?_, ?_, ?_, ?_, ?_⟩ <;> (unfold State.takeOffer; dsimp only; (repeat' split) <;> simp)

@[simp] theorem State.dealOwnEntry_frame (s : State) :
    (State.dealOwnEntry s).inReset = s.inReset ∧ (State.dealOwnEntry s).bus = s.bus ∧ (State.dealOwnEntry s).slots = s.slots ∧
      (State.dealOwnEntry s).assembled = s.assembled ∧ (State.dealOwnEntry s).life = s.life ∧ (State.dealOwnEntry s).roster = s.roster ∧
      (State.dealOwnEntry s).claims = s.claims ∧ (State.dealOwnEntry s).reference = s.reference ∧
      (State.dealOwnEntry s).follower = s.follower ∧ (State.dealOwnEntry s).port = s.port ∧ (State.dealOwnEntry s).store = s.store ∧
      (State.dealOwnEntry s).pending = s.pending := by
  refine ⟨?_, ?_, ?_, ?_, ?_, ?_, ?_, ?_, ?_, ?_, ?_, ?_⟩ <;> (unfold State.dealOwnEntry; dsimp only; (repeat' split) <;> simp)

@[simp] theorem State.discardTable_frame (s : State) :
    (State.discardTable s).inReset = s.inReset ∧ (State.discardTable s).bus = s.bus ∧ (State.discardTable s).slots = s.slots ∧
      (State.discardTable s).assembled = s.assembled ∧ (State.discardTable s).life = s.life ∧ (State.discardTable s).roster = s.roster ∧
      (State.discardTable s).claims = s.claims ∧ (State.discardTable s).reference = s.reference ∧
      (State.discardTable s).follower = s.follower ∧ (State.discardTable s).port = s.port ∧ (State.discardTable s).store = s.store ∧
      (State.discardTable s).pending = s.pending := by
  refine ⟨?_, ?_, ?_, ?_, ?_, ?_, ?_, ?_, ?_, ?_, ?_, ?_⟩ <;> (unfold State.discardTable; dsimp only; (repeat' split) <;> simp)

@[simp] theorem State.giveVerdicts_frame (s : State) :
    (State.giveVerdicts s).inReset = s.inReset ∧ (State.giveVerdicts s).bus = s.bus ∧ (State.giveVerdicts s).slots = s.slots ∧
      (State.giveVerdicts s).assembled = s.assembled ∧ (State.giveVerdicts s).life = s.life ∧ (State.giveVerdicts s).roster = s.roster ∧
      (State.giveVerdicts s).claims = s.claims ∧ (State.giveVerdicts s).reference = s.reference ∧
      (State.giveVerdicts s).follower = s.follower ∧ (State.giveVerdicts s).port = s.port ∧ (State.giveVerdicts s).notices = s.notices ∧
      (State.giveVerdicts s).store = s.store ∧ (State.giveVerdicts s).pending = s.pending := by
  refine ⟨?_, ?_, ?_, ?_, ?_, ?_, ?_, ?_, ?_, ?_, ?_, ?_, ?_⟩ <;> (unfold State.giveVerdicts; exact foldl_field (fun s a => by simp) _ _)

@[simp] theorem State.recordOffer_frame (s : State) (k : Station) (o : OfferPart) :
    (State.recordOffer s k o).inReset = s.inReset ∧ (State.recordOffer s k o).bus = s.bus ∧
      (State.recordOffer s k o).slots = s.slots ∧ (State.recordOffer s k o).assembled = s.assembled ∧
      (State.recordOffer s k o).life = s.life ∧ (State.recordOffer s k o).roster = s.roster ∧
      (State.recordOffer s k o).claims = s.claims ∧ (State.recordOffer s k o).reference = s.reference ∧
      (State.recordOffer s k o).follower = s.follower ∧ (State.recordOffer s k o).port = s.port ∧
      (State.recordOffer s k o).notices = s.notices ∧ (State.recordOffer s k o).store = s.store ∧
      (State.recordOffer s k o).pending = s.pending := by
  refine ⟨?_, ?_, ?_, ?_, ?_, ?_, ?_, ?_, ?_, ?_, ?_, ?_, ?_⟩ <;> (unfold State.recordOffer; dsimp only; (repeat' split) <;> simp)

@[simp] theorem State.takeDecision_frame (s : State) (k : Station) (d : DecisionPart) :
    (State.takeDecision s k d).inReset = s.inReset ∧ (State.takeDecision s k d).bus = s.bus ∧
      (State.takeDecision s k d).slots = s.slots ∧ (State.takeDecision s k d).assembled = s.assembled ∧
      (State.takeDecision s k d).life = s.life ∧ (State.takeDecision s k d).roster = s.roster ∧
      (State.takeDecision s k d).reference = s.reference ∧ (State.takeDecision s k d).follower = s.follower ∧
      (State.takeDecision s k d).port = s.port ∧ (State.takeDecision s k d).store = s.store ∧
      (State.takeDecision s k d).pending = s.pending := by
  refine ⟨?_, ?_, ?_, ?_, ?_, ?_, ?_, ?_, ?_, ?_, ?_⟩ <;> (unfold State.takeDecision; dsimp only; (repeat' split) <;> simp)

@[simp] theorem State.collectVerdicts_frame (s : State) (k : Station) (responses : List ResponsePart) :
    (State.collectVerdicts s k responses).inReset = s.inReset ∧ (State.collectVerdicts s k responses).bus = s.bus ∧
      (State.collectVerdicts s k responses).slots = s.slots ∧ (State.collectVerdicts s k responses).assembled = s.assembled ∧
      (State.collectVerdicts s k responses).life = s.life ∧ (State.collectVerdicts s k responses).roster = s.roster ∧
      (State.collectVerdicts s k responses).claims = s.claims ∧ (State.collectVerdicts s k responses).reference = s.reference ∧
      (State.collectVerdicts s k responses).follower = s.follower ∧ (State.collectVerdicts s k responses).port = s.port ∧
      (State.collectVerdicts s k responses).notices = s.notices ∧ (State.collectVerdicts s k responses).store = s.store ∧
      (State.collectVerdicts s k responses).pending = s.pending := by
  refine ⟨?_, ?_, ?_, ?_, ?_, ?_, ?_, ?_, ?_, ?_, ?_, ?_, ?_⟩ <;> (unfold State.collectVerdicts; dsimp only; (repeat' split) <;> simp)

@[simp] theorem State.takeProposalParts_frame (s : State) (f : Frame) :
    (State.takeProposalParts s f).inReset = s.inReset ∧ (State.takeProposalParts s f).bus = s.bus ∧
      (State.takeProposalParts s f).slots = s.slots ∧ (State.takeProposalParts s f).assembled = s.assembled ∧
      (State.takeProposalParts s f).life = s.life ∧ (State.takeProposalParts s f).roster = s.roster ∧
      (State.takeProposalParts s f).reference = s.reference ∧ (State.takeProposalParts s f).follower = s.follower ∧
      (State.takeProposalParts s f).port = s.port ∧ (State.takeProposalParts s f).store = s.store ∧
      (State.takeProposalParts s f).pending = s.pending := by
  refine ⟨?_, ?_, ?_, ?_, ?_, ?_, ?_, ?_, ?_, ?_, ?_⟩ <;> (unfold State.takeProposalParts; dsimp only; (repeat' split) <;> simp)

@[simp] theorem State.takeAgreementPart_frame (s : State) (f : Frame) :
    (State.takeAgreementPart s f).inReset = s.inReset ∧ (State.takeAgreementPart s f).bus = s.bus ∧
      (State.takeAgreementPart s f).slots = s.slots ∧ (State.takeAgreementPart s f).assembled = s.assembled ∧
      (State.takeAgreementPart s f).life = s.life ∧ (State.takeAgreementPart s f).roster = s.roster ∧
      (State.takeAgreementPart s f).reference = s.reference ∧ (State.takeAgreementPart s f).follower = s.follower ∧
      (State.takeAgreementPart s f).port = s.port ∧ (State.takeAgreementPart s f).store = s.store ∧
      (State.takeAgreementPart s f).pending = s.pending := by
  refine ⟨?_, ?_, ?_, ?_, ?_, ?_, ?_, ?_, ?_, ?_, ?_⟩ <;> (unfold State.takeAgreementPart; dsimp only; (repeat' split) <;> simp)

@[simp] theorem State.postCommit_frame (serial : Byte) (s : State) (outcome : DueCommit × Bool) :
    (State.postCommit serial s outcome).inReset = s.inReset ∧ (State.postCommit serial s outcome).bus = s.bus ∧
      (State.postCommit serial s outcome).slots = s.slots ∧ (State.postCommit serial s outcome).assembled = s.assembled ∧
      (State.postCommit serial s outcome).life = s.life ∧ (State.postCommit serial s outcome).roster = s.roster ∧
      (State.postCommit serial s outcome).agreement = s.agreement ∧ (State.postCommit serial s outcome).claims = s.claims ∧
      (State.postCommit serial s outcome).reference = s.reference ∧ (State.postCommit serial s outcome).follower = s.follower ∧
      (State.postCommit serial s outcome).port = s.port ∧ (State.postCommit serial s outcome).store = s.store ∧
      (State.postCommit serial s outcome).pending = s.pending := by
  refine ⟨?_, ?_, ?_, ?_, ?_, ?_, ?_, ?_, ?_, ?_, ?_, ?_, ?_⟩ <;> (unfold State.postCommit; dsimp only; (repeat' split) <;> simp)

@[simp] theorem State.processCommits_frame (s : State) (new : Cycle) (outcomes : List (DueCommit × Bool)) :
    (State.processCommits s new outcomes).inReset = s.inReset ∧ (State.processCommits s new outcomes).bus = s.bus ∧
      (State.processCommits s new outcomes).slots = s.slots ∧ (State.processCommits s new outcomes).assembled = s.assembled ∧
      (State.processCommits s new outcomes).life = s.life ∧ (State.processCommits s new outcomes).roster = s.roster ∧
      (State.processCommits s new outcomes).claims = s.claims ∧ (State.processCommits s new outcomes).reference = s.reference ∧
      (State.processCommits s new outcomes).follower = s.follower ∧ (State.processCommits s new outcomes).port = s.port ∧
      (State.processCommits s new outcomes).store = s.store ∧ (State.processCommits s new outcomes).pending = s.pending := by
  refine ⟨?_, ?_, ?_, ?_, ?_, ?_, ?_, ?_, ?_, ?_, ?_, ?_⟩ <;> (unfold State.processCommits; exact foldl_field (fun s a => by simp) _ _)

@[simp] theorem State.supersedeCommits_frame (s : State) (new : Cycle) :
    (State.supersedeCommits s new).inReset = s.inReset ∧ (State.supersedeCommits s new).bus = s.bus ∧
      (State.supersedeCommits s new).slots = s.slots ∧ (State.supersedeCommits s new).assembled = s.assembled ∧
      (State.supersedeCommits s new).life = s.life ∧ (State.supersedeCommits s new).roster = s.roster ∧
      (State.supersedeCommits s new).claims = s.claims ∧ (State.supersedeCommits s new).reference = s.reference ∧
      (State.supersedeCommits s new).follower = s.follower ∧ (State.supersedeCommits s new).port = s.port ∧
      (State.supersedeCommits s new).store = s.store ∧ (State.supersedeCommits s new).pending = s.pending := by
  refine ⟨?_, ?_, ?_, ?_, ?_, ?_, ?_, ?_, ?_, ?_, ?_, ?_⟩ <;> (unfold State.supersedeCommits; dsimp only; (repeat' split) <;> simp)

@[simp] theorem State.dropOrigin_frame (s : State) (k : Station) :
    (State.dropOrigin s k).inReset = s.inReset ∧ (State.dropOrigin s k).bus = s.bus ∧ (State.dropOrigin s k).slots = s.slots ∧
      (State.dropOrigin s k).assembled = s.assembled ∧ (State.dropOrigin s k).life = s.life ∧ (State.dropOrigin s k).roster = s.roster ∧
      (State.dropOrigin s k).claims = s.claims ∧ (State.dropOrigin s k).reference = s.reference ∧
      (State.dropOrigin s k).follower = s.follower ∧ (State.dropOrigin s k).port = s.port ∧ (State.dropOrigin s k).notices = s.notices ∧
      (State.dropOrigin s k).store = s.store ∧ (State.dropOrigin s k).pending = s.pending := by
  refine ⟨?_, ?_, ?_, ?_, ?_, ?_, ?_, ?_, ?_, ?_, ?_, ?_, ?_⟩ <;> (unfold State.dropOrigin; dsimp only; (repeat' split) <;> simp)

@[simp] theorem State.countSlot_frame (s : State) (k : Station) (heard : Bool) :
    (State.countSlot s k heard).inReset = s.inReset ∧ (State.countSlot s k heard).bus = s.bus ∧
      (State.countSlot s k heard).slots = s.slots ∧ (State.countSlot s k heard).assembled = s.assembled ∧
      (State.countSlot s k heard).life = s.life ∧ (State.countSlot s k heard).agreement = s.agreement ∧
      (State.countSlot s k heard).claims = s.claims ∧ (State.countSlot s k heard).reference = s.reference ∧
      (State.countSlot s k heard).follower = s.follower ∧ (State.countSlot s k heard).port = s.port ∧
      (State.countSlot s k heard).notices = s.notices ∧ (State.countSlot s k heard).store = s.store ∧
      (State.countSlot s k heard).pending = s.pending := by
  refine ⟨?_, ?_, ?_, ?_, ?_, ?_, ?_, ?_, ?_, ?_, ?_, ?_, ?_⟩ <;> (unfold State.countSlot; dsimp only; (repeat' split) <;> simp)

@[simp] theorem State.closeSlot_frame (s : State) (j : Station) :
    (State.closeSlot s j).inReset = s.inReset ∧ (State.closeSlot s j).bus = s.bus ∧ (State.closeSlot s j).assembled = s.assembled ∧
      (State.closeSlot s j).life = s.life ∧ (State.closeSlot s j).agreement = s.agreement ∧ (State.closeSlot s j).claims = s.claims ∧
      (State.closeSlot s j).reference = s.reference ∧ (State.closeSlot s j).follower = s.follower ∧
      (State.closeSlot s j).port = s.port ∧ (State.closeSlot s j).notices = s.notices ∧ (State.closeSlot s j).store = s.store ∧
      (State.closeSlot s j).pending = s.pending := by
  refine ⟨?_, ?_, ?_, ?_, ?_, ?_, ?_, ?_, ?_, ?_, ?_, ?_⟩ <;> (unfold State.closeSlot; dsimp only; (repeat' split) <;> simp)

@[simp] theorem State.removeMember_frame (s : State) (k : Station) (reason : RemovalReason) :
    (State.removeMember s k reason).inReset = s.inReset ∧ (State.removeMember s k reason).bus = s.bus ∧
      (State.removeMember s k reason).slots = s.slots ∧ (State.removeMember s k reason).assembled = s.assembled ∧
      (State.removeMember s k reason).life = s.life ∧ (State.removeMember s k reason).reference = s.reference ∧
      (State.removeMember s k reason).follower = s.follower ∧ (State.removeMember s k reason).port = s.port ∧
      (State.removeMember s k reason).store = s.store ∧ (State.removeMember s k reason).pending = s.pending := by
  refine ⟨?_, ?_, ?_, ?_, ?_, ?_, ?_, ?_, ?_, ?_⟩ <;> (unfold State.removeMember; dsimp only; (repeat' split) <;> simp)

@[simp] theorem State.takeMissedLimit_frame (s : State) (k : Station) :
    (State.takeMissedLimit s k).inReset = s.inReset ∧ (State.takeMissedLimit s k).bus = s.bus ∧
      (State.takeMissedLimit s k).slots = s.slots ∧ (State.takeMissedLimit s k).assembled = s.assembled ∧
      (State.takeMissedLimit s k).life = s.life ∧ (State.takeMissedLimit s k).reference = s.reference ∧
      (State.takeMissedLimit s k).follower = s.follower ∧ (State.takeMissedLimit s k).port = s.port ∧
      (State.takeMissedLimit s k).store = s.store ∧ (State.takeMissedLimit s k).pending = s.pending := by
  refine ⟨?_, ?_, ?_, ?_, ?_, ?_, ?_, ?_, ?_, ?_⟩ <;> (unfold State.takeMissedLimit; dsimp only; (repeat' split) <;> simp)

@[simp] theorem State.admitStation_frame (s : State) (k : Station) (late : Bool) :
    (State.admitStation s k late).inReset = s.inReset ∧ (State.admitStation s k late).bus = s.bus ∧
      (State.admitStation s k late).slots = s.slots ∧ (State.admitStation s k late).assembled = s.assembled ∧
      (State.admitStation s k late).life = s.life ∧ (State.admitStation s k late).agreement = s.agreement ∧
      (State.admitStation s k late).follower = s.follower ∧ (State.admitStation s k late).port = s.port ∧
      (State.admitStation s k late).store = s.store ∧ (State.admitStation s k late).pending = s.pending := by
  refine ⟨?_, ?_, ?_, ?_, ?_, ?_, ?_, ?_, ?_, ?_⟩ <;> (unfold State.admitStation; dsimp only; (repeat' split) <;> simp)

@[simp] theorem State.admissionTest_frame (s : State) (k : Station) (joiningSince : Cycle) :
    (State.admissionTest s k joiningSince).inReset = s.inReset ∧ (State.admissionTest s k joiningSince).bus = s.bus ∧
      (State.admissionTest s k joiningSince).slots = s.slots ∧ (State.admissionTest s k joiningSince).assembled = s.assembled ∧
      (State.admissionTest s k joiningSince).life = s.life ∧ (State.admissionTest s k joiningSince).agreement = s.agreement ∧
      (State.admissionTest s k joiningSince).follower = s.follower ∧ (State.admissionTest s k joiningSince).port = s.port ∧
      (State.admissionTest s k joiningSince).store = s.store ∧ (State.admissionTest s k joiningSince).pending = s.pending := by
  refine ⟨?_, ?_, ?_, ?_, ?_, ?_, ?_, ?_, ?_, ?_⟩ <;> (unfold State.admissionTest; dsimp only; (repeat' split) <;> simp)

@[simp] theorem State.hear_frame (s : State) (f : Frame) (ownSlot : Bool) :
    (State.hear s f ownSlot).inReset = s.inReset ∧ (State.hear s f ownSlot).bus = s.bus ∧ (State.hear s f ownSlot).slots = s.slots ∧
      (State.hear s f ownSlot).assembled = s.assembled ∧ (State.hear s f ownSlot).life = s.life ∧
      (State.hear s f ownSlot).agreement = s.agreement ∧ (State.hear s f ownSlot).claims = s.claims ∧
      (State.hear s f ownSlot).reference = s.reference ∧ (State.hear s f ownSlot).follower = s.follower ∧
      (State.hear s f ownSlot).port = s.port ∧ (State.hear s f ownSlot).notices = s.notices ∧ (State.hear s f ownSlot).store = s.store ∧
      (State.hear s f ownSlot).pending = s.pending := by
  refine ⟨?_, ?_, ?_, ?_, ?_, ?_, ?_, ?_, ?_, ?_, ?_, ?_, ?_⟩ <;> (unfold State.hear; split <;> simp)

@[simp] theorem State.takeCandidate_frame (s : State) (f : Frame) :
    (State.takeCandidate s f).inReset = s.inReset ∧ (State.takeCandidate s f).bus = s.bus ∧
      (State.takeCandidate s f).slots = s.slots ∧ (State.takeCandidate s f).assembled = s.assembled ∧
      (State.takeCandidate s f).life = s.life ∧ (State.takeCandidate s f).agreement = s.agreement ∧
      (State.takeCandidate s f).follower = s.follower ∧ (State.takeCandidate s f).port = s.port ∧
      (State.takeCandidate s f).store = s.store ∧ (State.takeCandidate s f).pending = s.pending := by
  refine ⟨?_, ?_, ?_, ?_, ?_, ?_, ?_, ?_, ?_, ?_⟩ <;> (unfold State.takeCandidate; dsimp only; (repeat' split) <;> simp)

@[simp] theorem State.rosterPublication_frame (s : State) (k : Station) :
    (State.rosterPublication s k).inReset = s.inReset ∧ (State.rosterPublication s k).bus = s.bus ∧
      (State.rosterPublication s k).slots = s.slots ∧ (State.rosterPublication s k).assembled = s.assembled ∧
      (State.rosterPublication s k).life = s.life ∧ (State.rosterPublication s k).follower = s.follower ∧
      (State.rosterPublication s k).port = s.port ∧ (State.rosterPublication s k).store = s.store ∧
      (State.rosterPublication s k).pending = s.pending := by
  refine ⟨?_, ?_, ?_, ?_, ?_, ?_, ?_, ?_, ?_⟩ <;> (unfold State.rosterPublication; dsimp only; (repeat' split) <;> simp)

@[simp] theorem State.rosterDeparture_frame (s : State) (k : Station) :
    (State.rosterDeparture s k).inReset = s.inReset ∧ (State.rosterDeparture s k).bus = s.bus ∧
      (State.rosterDeparture s k).slots = s.slots ∧ (State.rosterDeparture s k).assembled = s.assembled ∧
      (State.rosterDeparture s k).life = s.life ∧ (State.rosterDeparture s k).reference = s.reference ∧
      (State.rosterDeparture s k).follower = s.follower ∧ (State.rosterDeparture s k).port = s.port ∧
      (State.rosterDeparture s k).store = s.store ∧ (State.rosterDeparture s k).pending = s.pending := by
  refine ⟨?_, ?_, ?_, ?_, ?_, ?_, ?_, ?_, ?_, ?_⟩ <;> (unfold State.rosterDeparture; dsimp only; (repeat' split) <;> simp)

@[simp] theorem State.postOwn_frame (s : State) (notice : Option OwnNotice) :
    (State.postOwn s notice).inReset = s.inReset ∧ (State.postOwn s notice).bus = s.bus ∧ (State.postOwn s notice).slots = s.slots ∧
      (State.postOwn s notice).assembled = s.assembled ∧ (State.postOwn s notice).life = s.life ∧
      (State.postOwn s notice).roster = s.roster ∧ (State.postOwn s notice).agreement = s.agreement ∧
      (State.postOwn s notice).claims = s.claims ∧ (State.postOwn s notice).reference = s.reference ∧
      (State.postOwn s notice).follower = s.follower ∧ (State.postOwn s notice).port = s.port ∧
      (State.postOwn s notice).store = s.store ∧ (State.postOwn s notice).pending = s.pending := by
  refine ⟨?_, ?_, ?_, ?_, ?_, ?_, ?_, ?_, ?_, ?_, ?_, ?_, ?_⟩ <;> (unfold State.postOwn; split <;> simp)

@[simp] theorem State.goSilent_frame (s : State) (next : StationState) (isolation : Option IsolationCause) (notice : Option OwnNotice) :
    (State.goSilent s next isolation notice).inReset = s.inReset ∧ (State.goSilent s next isolation notice).store = s.store ∧
      (State.goSilent s next isolation notice).pending = s.pending := by
  refine ⟨?_, ?_, ?_⟩ <;> (simp [State.goSilent, State.turnSilent])

@[simp] theorem State.goSilentAtBoundary_frame (s : State) (next : StationState) :
    (State.goSilentAtBoundary s next).inReset = s.inReset ∧ (State.goSilentAtBoundary s next).store = s.store ∧
      (State.goSilentAtBoundary s next).pending = s.pending := by
  refine ⟨?_, ?_, ?_⟩ <;> (simp [State.goSilentAtBoundary, State.turnSilent])

@[simp] theorem State.rejoin_frame (s : State) (notice : Option OwnNotice) :
    (State.rejoin s notice).inReset = s.inReset ∧ (State.rejoin s notice).bus = s.bus ∧ (State.rejoin s notice).slots = s.slots ∧
      (State.rejoin s notice).assembled = s.assembled ∧ (State.rejoin s notice).store = s.store ∧
      (State.rejoin s notice).pending = s.pending := by
  refine ⟨?_, ?_, ?_, ?_, ?_, ?_⟩ <;> (simp [State.rejoin])

@[simp] theorem State.stopListening_frame (s : State) (notice : Option OwnNotice) :
    (State.stopListening s notice).inReset = s.inReset ∧ (State.stopListening s notice).bus = s.bus ∧
      (State.stopListening s notice).slots = s.slots ∧ (State.stopListening s notice).assembled = s.assembled ∧
      (State.stopListening s notice).roster = s.roster ∧ (State.stopListening s notice).agreement = s.agreement ∧
      (State.stopListening s notice).claims = s.claims ∧ (State.stopListening s notice).reference = s.reference ∧
      (State.stopListening s notice).port = s.port ∧ (State.stopListening s notice).store = s.store ∧
      (State.stopListening s notice).pending = s.pending := by
  refine ⟨?_, ?_, ?_, ?_, ?_, ?_, ?_, ?_, ?_, ?_, ?_⟩ <;> (simp [State.stopListening])

@[simp] theorem State.foreignIsland_frame (s : State) (f : Frame) :
    (State.foreignIsland s f).inReset = s.inReset ∧ (State.foreignIsland s f).bus = s.bus ∧
      (State.foreignIsland s f).slots = s.slots ∧ (State.foreignIsland s f).assembled = s.assembled ∧
      (State.foreignIsland s f).roster = s.roster ∧ (State.foreignIsland s f).agreement = s.agreement ∧
      (State.foreignIsland s f).reference = s.reference ∧ (State.foreignIsland s f).follower = s.follower ∧
      (State.foreignIsland s f).port = s.port ∧ (State.foreignIsland s f).store = s.store ∧
      (State.foreignIsland s f).pending = s.pending := by
  refine ⟨?_, ?_, ?_, ?_, ?_, ?_, ?_, ?_, ?_, ?_, ?_⟩ <;> (unfold State.foreignIsland; dsimp only; (repeat' split) <;> simp)

@[simp] theorem State.takeMemberFrame_frame (s : State) (f : Frame) :
    (State.takeMemberFrame s f).inReset = s.inReset ∧ (State.takeMemberFrame s f).bus = s.bus ∧
      (State.takeMemberFrame s f).slots = s.slots ∧ (State.takeMemberFrame s f).assembled = s.assembled ∧
      (State.takeMemberFrame s f).roster = s.roster ∧ (State.takeMemberFrame s f).follower = s.follower ∧
      (State.takeMemberFrame s f).port = s.port ∧ (State.takeMemberFrame s f).store = s.store ∧
      (State.takeMemberFrame s f).pending = s.pending := by
  refine ⟨?_, ?_, ?_, ?_, ?_, ?_, ?_, ?_, ?_⟩ <;> (simp [State.takeMemberFrame])

@[simp] theorem State.reportMismatch_frame (s : State) (f : Frame) :
    (State.reportMismatch s f).inReset = s.inReset ∧ (State.reportMismatch s f).bus = s.bus ∧
      (State.reportMismatch s f).slots = s.slots ∧ (State.reportMismatch s f).assembled = s.assembled ∧
      (State.reportMismatch s f).roster = s.roster ∧ (State.reportMismatch s f).agreement = s.agreement ∧
      (State.reportMismatch s f).claims = s.claims ∧ (State.reportMismatch s f).reference = s.reference ∧
      (State.reportMismatch s f).follower = s.follower ∧ (State.reportMismatch s f).port = s.port ∧
      (State.reportMismatch s f).store = s.store ∧ (State.reportMismatch s f).pending = s.pending := by
  refine ⟨?_, ?_, ?_, ?_, ?_, ?_, ?_, ?_, ?_, ?_, ?_, ?_⟩ <;> (unfold State.reportMismatch; split <;> simp)

@[simp] theorem State.takeOwnNumber_frame (s : State) (f : Frame) :
    (State.takeOwnNumber s f).inReset = s.inReset ∧ (State.takeOwnNumber s f).store = s.store ∧
      (State.takeOwnNumber s f).pending = s.pending := by
  refine ⟨?_, ?_, ?_⟩ <;> (unfold State.takeOwnNumber; split <;> simp)

@[simp] theorem State.scheduleLeave_frame (s : State) (f : Frame) :
    (State.scheduleLeave s f).inReset = s.inReset ∧ (State.scheduleLeave s f).bus = s.bus ∧
      (State.scheduleLeave s f).slots = s.slots ∧ (State.scheduleLeave s f).assembled = s.assembled ∧
      (State.scheduleLeave s f).life = s.life ∧ (State.scheduleLeave s f).agreement = s.agreement ∧
      (State.scheduleLeave s f).claims = s.claims ∧ (State.scheduleLeave s f).reference = s.reference ∧
      (State.scheduleLeave s f).follower = s.follower ∧ (State.scheduleLeave s f).port = s.port ∧
      (State.scheduleLeave s f).notices = s.notices ∧ (State.scheduleLeave s f).store = s.store ∧
      (State.scheduleLeave s f).pending = s.pending := by
  refine ⟨?_, ?_, ?_, ?_, ?_, ?_, ?_, ?_, ?_, ?_, ?_, ?_, ?_⟩ <;> (unfold State.scheduleLeave; split <;> simp)

@[simp] theorem State.agreementSlot_frame (s : State) :
    (State.agreementSlot s).1.inReset = s.inReset ∧ (State.agreementSlot s).1.bus = s.bus ∧
      (State.agreementSlot s).1.slots = s.slots ∧ (State.agreementSlot s).1.assembled = s.assembled ∧
      (State.agreementSlot s).1.life = s.life ∧ (State.agreementSlot s).1.roster = s.roster ∧
      (State.agreementSlot s).1.claims = s.claims ∧ (State.agreementSlot s).1.reference = s.reference ∧
      (State.agreementSlot s).1.follower = s.follower ∧ (State.agreementSlot s).1.port = s.port ∧
      (State.agreementSlot s).1.store = s.store ∧ (State.agreementSlot s).1.pending = s.pending := by
  refine ⟨?_, ?_, ?_, ?_, ?_, ?_, ?_, ?_, ?_, ?_, ?_, ?_⟩ <;> (unfold State.agreementSlot; split <;> simp)

@[simp] theorem State.lifeSlot_frame (s : State) :
    (State.lifeSlot s).inReset = s.inReset ∧ (State.lifeSlot s).bus = s.bus ∧ (State.lifeSlot s).slots = s.slots ∧
      (State.lifeSlot s).assembled = s.assembled ∧ (State.lifeSlot s).roster = s.roster ∧ (State.lifeSlot s).agreement = s.agreement ∧
      (State.lifeSlot s).claims = s.claims ∧ (State.lifeSlot s).reference = s.reference ∧ (State.lifeSlot s).follower = s.follower ∧
      (State.lifeSlot s).port = s.port ∧ (State.lifeSlot s).notices = s.notices ∧ (State.lifeSlot s).store = s.store ∧
      (State.lifeSlot s).pending = s.pending := by
  refine ⟨?_, ?_, ?_, ?_, ?_, ?_, ?_, ?_, ?_, ?_, ?_, ?_, ?_⟩ <;> (unfold State.lifeSlot; split <;> simp)

@[simp] theorem State.slotStartWork_frame (s : State) :
    (State.slotStartWork s).inReset = s.inReset ∧ (State.slotStartWork s).bus = s.bus ∧ (State.slotStartWork s).slots = s.slots ∧
      (State.slotStartWork s).roster = s.roster ∧ (State.slotStartWork s).reference = s.reference ∧
      (State.slotStartWork s).follower = s.follower ∧ (State.slotStartWork s).port = s.port ∧ (State.slotStartWork s).store = s.store ∧
      (State.slotStartWork s).pending = s.pending := by
  refine ⟨?_, ?_, ?_, ?_, ?_, ?_, ?_, ?_, ?_⟩ <;> (simp [State.slotStartWork])

@[simp] theorem State.acceptRecord_frame (s : State) (r : ConfigRecord) :
    (State.acceptRecord s r).inReset = s.inReset ∧ (State.acceptRecord s r).bus = s.bus ∧ (State.acceptRecord s r).slots = s.slots ∧
      (State.acceptRecord s r).assembled = s.assembled ∧ (State.acceptRecord s r).roster = s.roster ∧
      (State.acceptRecord s r).agreement = s.agreement ∧ (State.acceptRecord s r).reference = s.reference ∧
      (State.acceptRecord s r).follower = { s.follower with held := none } ∧ (State.acceptRecord s r).port = s.port ∧
      (State.acceptRecord s r).pending = s.pending := by
  refine ⟨?_, ?_, ?_, ?_, ?_, ?_, ?_, ?_, ?_, ?_⟩ <;> (simp [State.acceptRecord])

@[simp] theorem State.beginTransmission_frame (s : State) :
    (State.beginTransmission s).inReset = s.inReset ∧ (State.beginTransmission s).slots = s.slots ∧
      (State.beginTransmission s).assembled = s.assembled ∧ (State.beginTransmission s).life = s.life ∧
      (State.beginTransmission s).roster = s.roster ∧ (State.beginTransmission s).agreement = s.agreement ∧
      (State.beginTransmission s).claims = s.claims ∧ (State.beginTransmission s).reference = s.reference ∧
      (State.beginTransmission s).follower = s.follower ∧ (State.beginTransmission s).port = s.port ∧
      (State.beginTransmission s).notices = s.notices ∧ (State.beginTransmission s).store = s.store ∧
      (State.beginTransmission s).pending = s.pending := by
  refine ⟨?_, ?_, ?_, ?_, ?_, ?_, ?_, ?_, ?_, ?_, ?_, ?_, ?_⟩ <;> (unfold State.beginTransmission; dsimp only; (repeat' split) <;> simp)

@[simp] theorem State.endTransmission_frame (s : State) :
    (State.endTransmission s).inReset = s.inReset ∧ (State.endTransmission s).slots = s.slots ∧
      (State.endTransmission s).life = s.life ∧ (State.endTransmission s).roster = s.roster ∧
      (State.endTransmission s).agreement = s.agreement ∧ (State.endTransmission s).claims = s.claims ∧
      (State.endTransmission s).reference = s.reference ∧ (State.endTransmission s).follower = s.follower ∧
      (State.endTransmission s).port = s.port ∧ (State.endTransmission s).notices = s.notices ∧
      (State.endTransmission s).store = s.store ∧ (State.endTransmission s).pending = s.pending := by
  refine ⟨?_, ?_, ?_, ?_, ?_, ?_, ?_, ?_, ?_, ?_, ?_, ?_⟩ <;> (unfold State.endTransmission; split <;> simp)

@[simp] theorem State.collide_frame (s : State) :
    (State.collide s).inReset = s.inReset ∧ (State.collide s).slots = s.slots ∧ (State.collide s).life = s.life ∧
      (State.collide s).roster = s.roster ∧ (State.collide s).agreement = s.agreement ∧ (State.collide s).claims = s.claims ∧
      (State.collide s).reference = s.reference ∧ (State.collide s).follower = s.follower ∧ (State.collide s).port = s.port ∧
      (State.collide s).notices = s.notices ∧ (State.collide s).store = s.store ∧ (State.collide s).pending = s.pending := by
  refine ⟨?_, ?_, ?_, ?_, ?_, ?_, ?_, ?_, ?_, ?_, ?_, ?_⟩ <;> (unfold State.collide; split <;> simp)

@[simp] theorem State.isolateOnCollisions_frame (s : State) :
    (State.isolateOnCollisions s).inReset = s.inReset ∧ (State.isolateOnCollisions s).store = s.store ∧
      (State.isolateOnCollisions s).pending = s.pending := by
  refine ⟨?_, ?_, ?_⟩ <;> (unfold State.isolateOnCollisions; split <;> simp)

@[simp] theorem State.startTransaction_frame (s : State) :
    (State.startTransaction s).inReset = s.inReset ∧ (State.startTransaction s).bus = s.bus ∧
      (State.startTransaction s).slots = s.slots ∧ (State.startTransaction s).assembled = s.assembled ∧
      (State.startTransaction s).life = s.life ∧ (State.startTransaction s).roster = s.roster ∧
      (State.startTransaction s).agreement = s.agreement ∧ (State.startTransaction s).claims = s.claims ∧
      (State.startTransaction s).reference = s.reference ∧ (State.startTransaction s).follower = s.follower ∧
      (State.startTransaction s).notices = s.notices ∧ (State.startTransaction s).store = s.store ∧
      (State.startTransaction s).pending = s.pending := by
  refine ⟨?_, ?_, ?_, ?_, ?_, ?_, ?_, ?_, ?_, ?_, ?_, ?_, ?_⟩ <;> (unfold State.startTransaction; split <;> simp)

@[simp] theorem State.completeProcessing_frame (s : State) :
    (State.completeProcessing s).inReset = s.inReset ∧ (State.completeProcessing s).bus = s.bus ∧
      (State.completeProcessing s).slots = s.slots ∧ (State.completeProcessing s).assembled = s.assembled ∧
      (State.completeProcessing s).life = s.life ∧ (State.completeProcessing s).roster = s.roster ∧
      (State.completeProcessing s).agreement = s.agreement ∧ (State.completeProcessing s).claims = s.claims ∧
      (State.completeProcessing s).reference = s.reference ∧ (State.completeProcessing s).follower = s.follower ∧
      (State.completeProcessing s).notices = s.notices ∧ (State.completeProcessing s).store = s.store ∧
      (State.completeProcessing s).pending = s.pending := by
  refine ⟨?_, ?_, ?_, ?_, ?_, ?_, ?_, ?_, ?_, ?_, ?_, ?_, ?_⟩ <;> (unfold State.completeProcessing; dsimp only; (repeat' split) <;> simp)

@[simp] theorem State.endRestart_frame (s : State) :
    (State.endRestart s).inReset = s.inReset ∧ (State.endRestart s).bus = s.bus ∧
      (State.endRestart s).slots = s.slots ∧ (State.endRestart s).assembled = s.assembled ∧
      (State.endRestart s).life = s.life ∧ (State.endRestart s).roster = s.roster ∧
      (State.endRestart s).agreement = s.agreement ∧ (State.endRestart s).claims = s.claims ∧
      (State.endRestart s).reference = s.reference ∧ (State.endRestart s).follower = s.follower ∧
      (State.endRestart s).notices = s.notices ∧ (State.endRestart s).store = s.store ∧
      (State.endRestart s).pending = s.pending := by
  refine ⟨?_, ?_, ?_, ?_, ?_, ?_, ?_, ?_, ?_, ?_, ?_, ?_, ?_⟩ <;> (unfold State.endRestart; split <;> simp)

@[simp] theorem State.takeNop_frame (s : State) :
    (State.takeNop s).inReset = s.inReset ∧ (State.takeNop s).bus = s.bus ∧ (State.takeNop s).slots = s.slots ∧
      (State.takeNop s).assembled = s.assembled ∧ (State.takeNop s).life = s.life ∧ (State.takeNop s).roster = s.roster ∧
      (State.takeNop s).agreement = s.agreement ∧ (State.takeNop s).claims = s.claims ∧ (State.takeNop s).reference = s.reference ∧
      (State.takeNop s).follower = s.follower ∧ (State.takeNop s).notices = s.notices ∧ (State.takeNop s).store = s.store ∧
      (State.takeNop s).pending = s.pending := by
  refine ⟨?_, ?_, ?_, ?_, ?_, ?_, ?_, ?_, ?_, ?_, ?_, ?_, ?_⟩ <;> (unfold State.takeNop; split <;> simp)

@[simp] theorem State.join_frame (s : State) :
    (State.join s).1.inReset = s.inReset ∧ (State.join s).1.slots = s.slots ∧ (State.join s).1.assembled = s.assembled ∧
      (State.join s).1.roster = s.roster ∧ (State.join s).1.agreement = s.agreement ∧ (State.join s).1.claims = s.claims ∧
      (State.join s).1.reference = s.reference ∧ (State.join s).1.port = s.port ∧ (State.join s).1.store = s.store ∧
      (State.join s).1.pending = s.pending := by
  refine ⟨?_, ?_, ?_, ?_, ?_, ?_, ?_, ?_, ?_, ?_⟩ <;> (unfold State.join; split <;> simp)

@[simp] theorem State.takeClearStop_frame (s : State) :
    (State.takeClearStop s).1.inReset = s.inReset ∧ (State.takeClearStop s).1.bus = s.bus ∧
      (State.takeClearStop s).1.slots = s.slots ∧ (State.takeClearStop s).1.assembled = s.assembled ∧
      (State.takeClearStop s).1.life = s.life ∧ (State.takeClearStop s).1.roster = s.roster ∧
      (State.takeClearStop s).1.agreement = s.agreement ∧ (State.takeClearStop s).1.reference = s.reference ∧
      (State.takeClearStop s).1.follower = s.follower ∧ (State.takeClearStop s).1.port = s.port ∧
      (State.takeClearStop s).1.store = s.store ∧ (State.takeClearStop s).1.pending = s.pending := by
  refine ⟨?_, ?_, ?_, ?_, ?_, ?_, ?_, ?_, ?_, ?_, ?_, ?_⟩ <;> (unfold State.takeClearStop; split <;> simp)

@[simp] theorem State.answerReport_frame (p : Position) (flags : Byte) (s : State) :
    (State.answerReport p flags s).1.inReset = s.inReset ∧ (State.answerReport p flags s).1.bus = s.bus ∧
      (State.answerReport p flags s).1.slots = s.slots ∧ (State.answerReport p flags s).1.assembled = s.assembled ∧
      (State.answerReport p flags s).1.life = s.life ∧ (State.answerReport p flags s).1.roster = s.roster ∧
      (State.answerReport p flags s).1.agreement = s.agreement ∧ (State.answerReport p flags s).1.reference = s.reference ∧
      (State.answerReport p flags s).1.store = s.store ∧ (State.answerReport p flags s).1.pending = s.pending := by
  refine ⟨?_, ?_, ?_, ?_, ?_, ?_, ?_, ?_, ?_, ?_⟩ <;> (simp [State.answerReport])

@[simp] theorem State.answerNotice_frame (s : State) :
    (State.answerNotice s).1.inReset = s.inReset ∧ (State.answerNotice s).1.bus = s.bus ∧ (State.answerNotice s).1.slots = s.slots ∧
      (State.answerNotice s).1.assembled = s.assembled ∧ (State.answerNotice s).1.life = s.life ∧
      (State.answerNotice s).1.roster = s.roster ∧ (State.answerNotice s).1.agreement = s.agreement ∧
      (State.answerNotice s).1.claims = s.claims ∧ (State.answerNotice s).1.reference = s.reference ∧
      (State.answerNotice s).1.follower = s.follower ∧ (State.answerNotice s).1.port = s.port ∧
      (State.answerNotice s).1.store = s.store ∧ (State.answerNotice s).1.pending = s.pending := by
  refine ⟨?_, ?_, ?_, ?_, ?_, ?_, ?_, ?_, ?_, ?_, ?_, ?_, ?_⟩ <;> (unfold State.answerNotice; split <;> simp)

@[simp] theorem State.takeSlotStart_frame (s : State) :
    (State.takeSlotStart s).inReset = s.inReset ∧ (State.takeSlotStart s).bus = s.bus ∧ (State.takeSlotStart s).roster = s.roster ∧
      (State.takeSlotStart s).reference = s.reference ∧ (State.takeSlotStart s).follower = s.follower ∧
      (State.takeSlotStart s).port = s.port ∧ (State.takeSlotStart s).store = s.store ∧
      (State.takeSlotStart s).pending = s.pending := by
  refine ⟨?_, ?_, ?_, ?_, ?_, ?_, ?_, ?_⟩ <;> (unfold State.takeSlotStart; dsimp only; (repeat' split) <;> simp)

@[simp] theorem State.expireWindow_frame (s : State) :
    (State.expireWindow s).inReset = s.inReset ∧ (State.expireWindow s).bus = s.bus ∧ (State.expireWindow s).port = s.port ∧
      (State.expireWindow s).store = s.store ∧ (State.expireWindow s).pending = s.pending := by
  refine ⟨?_, ?_, ?_, ?_, ?_⟩ <;> (unfold State.expireWindow; split <;> simp)

@[simp] theorem State.missedLimitEvent_frame (k : Station) (s : State) :
    (State.missedLimitEvent k s).inReset = s.inReset ∧ (State.missedLimitEvent k s).bus = s.bus ∧
      (State.missedLimitEvent k s).slots = s.slots ∧ (State.missedLimitEvent k s).assembled = s.assembled ∧
      (State.missedLimitEvent k s).life = s.life ∧ (State.missedLimitEvent k s).reference = s.reference ∧
      (State.missedLimitEvent k s).follower = s.follower ∧ (State.missedLimitEvent k s).port = s.port ∧
      (State.missedLimitEvent k s).store = s.store ∧ (State.missedLimitEvent k s).pending = s.pending := by
  refine ⟨?_, ?_, ?_, ?_, ?_, ?_, ?_, ?_, ?_, ?_⟩ <;> (unfold State.missedLimitEvent; split <;> simp)

@[simp] theorem State.finishLeaving_frame (s : State) :
    (State.finishLeaving s).inReset = s.inReset ∧ (State.finishLeaving s).store = s.store ∧
      (State.finishLeaving s).pending = s.pending := by
  refine ⟨?_, ?_, ?_⟩ <;> (unfold State.finishLeaving; split <;> simp)

@[simp] theorem State.removeWithdrawn_frame (s : State) :
    (State.removeWithdrawn s).inReset = s.inReset ∧ (State.removeWithdrawn s).bus = s.bus ∧
      (State.removeWithdrawn s).slots = s.slots ∧ (State.removeWithdrawn s).assembled = s.assembled ∧
      (State.removeWithdrawn s).life = s.life ∧ (State.removeWithdrawn s).roster = s.roster ∧
      (State.removeWithdrawn s).claims = s.claims ∧ (State.removeWithdrawn s).reference = s.reference ∧
      (State.removeWithdrawn s).follower = s.follower ∧ (State.removeWithdrawn s).port = s.port ∧
      (State.removeWithdrawn s).notices = s.notices ∧ (State.removeWithdrawn s).store = s.store ∧
      (State.removeWithdrawn s).pending = s.pending := by
  refine ⟨?_, ?_, ?_, ?_, ?_, ?_, ?_, ?_, ?_, ?_, ?_, ?_, ?_⟩ <;> (unfold State.removeWithdrawn; split <;> simp)

@[simp] theorem State.takeSilent_frame (s : State) :
    (State.takeSilent s).inReset = s.inReset ∧ (State.takeSilent s).bus = s.bus ∧ (State.takeSilent s).slots = s.slots ∧
      (State.takeSilent s).assembled = s.assembled ∧ (State.takeSilent s).life = s.life ∧ (State.takeSilent s).roster = s.roster ∧
      (State.takeSilent s).agreement = s.agreement ∧ (State.takeSilent s).reference = s.reference ∧
      (State.takeSilent s).follower = s.follower ∧ (State.takeSilent s).store = s.store ∧ (State.takeSilent s).pending = s.pending := by
  refine ⟨?_, ?_, ?_, ?_, ?_, ?_, ?_, ?_, ?_, ?_, ?_⟩ <;> (unfold State.takeSilent; split <;> simp)

@[simp] theorem State.expireOffer_frame (s : State) :
    (State.expireOffer s).inReset = s.inReset ∧ (State.expireOffer s).bus = s.bus ∧ (State.expireOffer s).slots = s.slots ∧
      (State.expireOffer s).assembled = s.assembled ∧ (State.expireOffer s).life = s.life ∧ (State.expireOffer s).roster = s.roster ∧
      (State.expireOffer s).claims = s.claims ∧ (State.expireOffer s).reference = s.reference ∧
      (State.expireOffer s).follower = s.follower ∧ (State.expireOffer s).port = s.port ∧ (State.expireOffer s).store = s.store ∧
      (State.expireOffer s).pending = s.pending := by
  refine ⟨?_, ?_, ?_, ?_, ?_, ?_, ?_, ?_, ?_, ?_, ?_, ?_⟩ <;> (unfold State.expireOffer; split <;> simp)

@[simp] theorem State.endGrace_frame (s : State) :
    (State.endGrace s).inReset = s.inReset ∧ (State.endGrace s).bus = s.bus ∧ (State.endGrace s).slots = s.slots ∧
      (State.endGrace s).assembled = s.assembled ∧ (State.endGrace s).life = s.life ∧ (State.endGrace s).roster = s.roster ∧
      (State.endGrace s).claims = s.claims ∧ (State.endGrace s).reference = s.reference ∧ (State.endGrace s).follower = s.follower ∧
      (State.endGrace s).port = s.port ∧ (State.endGrace s).notices = s.notices ∧ (State.endGrace s).store = s.store ∧
      (State.endGrace s).pending = s.pending := by
  refine ⟨?_, ?_, ?_, ?_, ?_, ?_, ?_, ?_, ?_, ?_, ?_, ?_, ?_⟩ <;> (unfold State.endGrace; split <;> simp)

@[simp] theorem State.exclude_frame (s : State) :
    (State.exclude s).inReset = s.inReset ∧ (State.exclude s).bus = s.bus ∧ (State.exclude s).slots = s.slots ∧
      (State.exclude s).assembled = s.assembled ∧ (State.exclude s).store = s.store ∧ (State.exclude s).pending = s.pending := by
  refine ⟨?_, ?_, ?_, ?_, ?_, ?_⟩ <;> (unfold State.exclude; split <;> simp)

@[simp] theorem State.expireQuiet_frame (s : State) :
    (State.expireQuiet s).inReset = s.inReset ∧ (State.expireQuiet s).store = s.store ∧
      (State.expireQuiet s).pending = s.pending := by
  refine ⟨?_, ?_, ?_⟩ <;> (unfold State.expireQuiet; split <;> simp)

@[simp] theorem State.takeStopPart_frame (s : State) (f : Frame) :
    (State.takeStopPart s f).inReset = s.inReset ∧ (State.takeStopPart s f).bus = s.bus ∧ (State.takeStopPart s f).slots = s.slots ∧
      (State.takeStopPart s f).assembled = s.assembled ∧ (State.takeStopPart s f).life = s.life ∧
      (State.takeStopPart s f).roster = s.roster ∧ (State.takeStopPart s f).agreement = s.agreement ∧
      (State.takeStopPart s f).follower = s.follower ∧ (State.takeStopPart s f).port = s.port ∧
      (State.takeStopPart s f).store = s.store ∧ (State.takeStopPart s f).pending = s.pending := by
  refine ⟨?_, ?_, ?_, ?_, ?_, ?_, ?_, ?_, ?_, ?_, ?_⟩ <;> (unfold State.takeStopPart; (repeat' split) <;> simp)

@[simp] theorem State.takeHoldPart_frame (s : State) (f : Frame) :
    (State.takeHoldPart s f).inReset = s.inReset ∧ (State.takeHoldPart s f).bus = s.bus ∧ (State.takeHoldPart s f).slots = s.slots ∧
      (State.takeHoldPart s f).assembled = s.assembled ∧ (State.takeHoldPart s f).life = s.life ∧
      (State.takeHoldPart s f).roster = s.roster ∧ (State.takeHoldPart s f).agreement = s.agreement ∧
      (State.takeHoldPart s f).reference = s.reference ∧ (State.takeHoldPart s f).follower = s.follower ∧
      (State.takeHoldPart s f).port = s.port ∧ (State.takeHoldPart s f).store = s.store ∧
      (State.takeHoldPart s f).pending = s.pending := by
  refine ⟨?_, ?_, ?_, ?_, ?_, ?_, ?_, ?_, ?_, ?_, ?_, ?_⟩ <;> (unfold State.takeHoldPart; (repeat' split) <;> simp)

@[simp] theorem State.withdrawOwn_frame (s : State) :
    (State.withdrawOwn s).1.inReset = s.inReset ∧ (State.withdrawOwn s).1.bus = s.bus ∧ (State.withdrawOwn s).1.slots = s.slots ∧
      (State.withdrawOwn s).1.assembled = s.assembled ∧ (State.withdrawOwn s).1.life = s.life ∧
      (State.withdrawOwn s).1.roster = s.roster ∧ (State.withdrawOwn s).1.claims = s.claims ∧
      (State.withdrawOwn s).1.reference = s.reference ∧ (State.withdrawOwn s).1.follower = s.follower ∧
      (State.withdrawOwn s).1.port = s.port ∧ (State.withdrawOwn s).1.store = s.store ∧
      (State.withdrawOwn s).1.pending = s.pending := by
  refine ⟨?_, ?_, ?_, ?_, ?_, ?_, ?_, ?_, ?_, ?_, ?_, ?_⟩ <;> (unfold State.withdrawOwn; (repeat' split) <;> simp)

@[simp] theorem State.leaveOwn_frame (s : State) :
    (State.leaveOwn s).inReset = s.inReset ∧ (State.leaveOwn s).bus = s.bus ∧ (State.leaveOwn s).slots = s.slots ∧
      (State.leaveOwn s).assembled = s.assembled ∧ (State.leaveOwn s).life = s.life ∧ (State.leaveOwn s).roster = s.roster ∧
      (State.leaveOwn s).claims = s.claims ∧ (State.leaveOwn s).reference = s.reference ∧ (State.leaveOwn s).follower = s.follower ∧
      (State.leaveOwn s).port = s.port ∧ (State.leaveOwn s).store = s.store ∧ (State.leaveOwn s).pending = s.pending := by
  refine ⟨?_, ?_, ?_, ?_, ?_, ?_, ?_, ?_, ?_, ?_, ?_, ?_⟩ <;> (unfold State.leaveOwn; (repeat' split) <;> simp)

@[simp] theorem State.takeMemberJoining_frame (s : State) (f : Frame) :
    (State.takeMemberJoining s f).inReset = s.inReset ∧ (State.takeMemberJoining s f).bus = s.bus ∧
      (State.takeMemberJoining s f).slots = s.slots ∧ (State.takeMemberJoining s f).assembled = s.assembled ∧
      (State.takeMemberJoining s f).life = s.life ∧ (State.takeMemberJoining s f).follower = s.follower ∧
      (State.takeMemberJoining s f).port = s.port ∧ (State.takeMemberJoining s f).store = s.store ∧
      (State.takeMemberJoining s f).pending = s.pending := by
  simp [State.takeMemberJoining, apply_ite State.inReset, apply_ite State.bus, apply_ite State.slots, apply_ite State.assembled, apply_ite State.life, apply_ite State.follower, apply_ite State.port, apply_ite State.store, apply_ite State.pending]

@[simp] theorem State.startLeaving_frame (s : State) :
    (State.startLeaving s).inReset = s.inReset ∧ (State.startLeaving s).bus = s.bus ∧ (State.startLeaving s).slots = s.slots ∧
      (State.startLeaving s).assembled = s.assembled ∧ (State.startLeaving s).store = s.store ∧
      (State.startLeaving s).pending = s.pending := by
  refine ⟨?_, ?_, ?_, ?_, ?_, ?_⟩ <;> simp [State.startLeaving]

@[simp] theorem State.takeListening_frame (s : State) (f : Frame) (endTime bytes : Nat) :
    (State.takeListening s f endTime bytes).inReset = s.inReset ∧ (State.takeListening s f endTime bytes).bus = s.bus ∧
      (State.takeListening s f endTime bytes).assembled = s.assembled ∧ (State.takeListening s f endTime bytes).roster = s.roster ∧
      (State.takeListening s f endTime bytes).port = s.port ∧ (State.takeListening s f endTime bytes).store = s.store ∧
      (State.takeListening s f endTime bytes).pending = s.pending := by
  refine ⟨?_, ?_, ?_, ?_, ?_, ?_, ?_⟩ <;> (unfold State.takeListening; (repeat' split) <;> simp)

@[simp] theorem State.takeParts_frame (s : State) (f : Frame) (order : PartOrder) :
    (State.takeParts s f order).inReset = s.inReset ∧ (State.takeParts s f order).bus = s.bus ∧
      (State.takeParts s f order).slots = s.slots ∧ (State.takeParts s f order).assembled = s.assembled ∧
      (State.takeParts s f order).life = s.life ∧ (State.takeParts s f order).roster = s.roster ∧
      (State.takeParts s f order).follower = s.follower ∧ (State.takeParts s f order).port = s.port ∧
      (State.takeParts s f order).store = s.store ∧ (State.takeParts s f order).pending = s.pending := by
  simp [State.takeParts, apply_ite State.inReset, apply_ite State.bus, apply_ite State.slots, apply_ite State.assembled, apply_ite State.life, apply_ite State.roster, apply_ite State.follower, apply_ite State.port, apply_ite State.store, apply_ite State.pending]

@[simp] theorem State.islandRule_frame (s : State) (f : Frame) (endTime bytes : Nat) :
    (State.islandRule s f endTime bytes).inReset = s.inReset ∧ (State.islandRule s f endTime bytes).bus = s.bus ∧
      (State.islandRule s f endTime bytes).assembled = s.assembled ∧ (State.islandRule s f endTime bytes).store = s.store ∧
      (State.islandRule s f endTime bytes).pending = s.pending := by
  refine ⟨?_, ?_, ?_, ?_, ?_⟩ <;> (unfold State.islandRule; (repeat' split) <;> simp)

@[simp] theorem State.publish_frame (s : State) :
    (State.publish s).inReset = s.inReset ∧ (State.publish s).bus = s.bus ∧ (State.publish s).slots = s.slots ∧
      (State.publish s).assembled = s.assembled ∧ (State.publish s).life = s.life ∧ (State.publish s).store = s.store ∧
      (State.publish s).pending = s.pending := by
  unfold State.publish; dsimp only
  refine ⟨(foldl_field (g := State.inReset) (fun s a => by simp) _ _).trans (by simp),
    (foldl_field (g := State.bus) (fun s a => by simp) _ _).trans (by simp),
    (foldl_field (g := State.slots) (fun s a => by simp) _ _).trans (by simp),
    (foldl_field (g := State.assembled) (fun s a => by simp) _ _).trans (by simp),
    (foldl_field (g := State.life) (fun s a => by simp) _ _).trans (by simp),
    (foldl_field (g := State.store) (fun s a => by simp) _ _).trans (by simp),
    (foldl_field (g := State.pending) (fun s a => by simp) _ _).trans (by simp)⟩

@[simp] theorem State.memberBoundary_frame (s : State) (exclusionFirst : Bool) :
    (State.memberBoundary s exclusionFirst).inReset = s.inReset ∧ (State.memberBoundary s exclusionFirst).bus = s.bus ∧
      (State.memberBoundary s exclusionFirst).slots = s.slots ∧ (State.memberBoundary s exclusionFirst).assembled = s.assembled ∧
      (State.memberBoundary s exclusionFirst).store = s.store ∧ (State.memberBoundary s exclusionFirst).pending = s.pending := by
  simp [State.memberBoundary, apply_ite State.inReset, apply_ite State.bus, apply_ite State.slots, apply_ite State.assembled, apply_ite State.store, apply_ite State.pending]

@[simp] theorem State.becomeMember_frame (s : State) (set : StationSet) :
    (State.becomeMember s set).inReset = s.inReset ∧ (State.becomeMember s set).bus = s.bus ∧
      (State.becomeMember s set).slots = s.slots ∧ (State.becomeMember s set).assembled = s.assembled ∧
      (State.becomeMember s set).store = s.store ∧ (State.becomeMember s set).pending = s.pending := by
  refine ⟨?_, ?_, ?_, ?_, ?_, ?_⟩ <;> simp [State.becomeMember]

@[simp] theorem State.leavingBoundary_frame (s : State) :
    (State.leavingBoundary s).inReset = s.inReset ∧ (State.leavingBoundary s).bus = s.bus ∧
      (State.leavingBoundary s).slots = s.slots ∧ (State.leavingBoundary s).assembled = s.assembled ∧
      (State.leavingBoundary s).life = s.life ∧ (State.leavingBoundary s).reference = s.reference ∧
      (State.leavingBoundary s).follower = s.follower ∧ (State.leavingBoundary s).port = s.port ∧
      (State.leavingBoundary s).store = s.store ∧ (State.leavingBoundary s).pending = s.pending := by
  unfold State.leavingBoundary
  refine ⟨(foldl_field (g := State.inReset) (fun s a => by simp) _ _).trans (by simp),
    (foldl_field (g := State.bus) (fun s a => by simp) _ _).trans (by simp),
    (foldl_field (g := State.slots) (fun s a => by simp) _ _).trans (by simp),
    (foldl_field (g := State.assembled) (fun s a => by simp) _ _).trans (by simp),
    (foldl_field (g := State.life) (fun s a => by simp) _ _).trans (by simp),
    (foldl_field (g := State.reference) (fun s a => by simp) _ _).trans (by simp),
    (foldl_field (g := State.follower) (fun s a => by simp) _ _).trans (by simp),
    (foldl_field (g := State.port) (fun s a => by simp) _ _).trans (by simp),
    (foldl_field (g := State.store) (fun s a => by simp) _ _).trans (by simp),
    (foldl_field (g := State.pending) (fun s a => by simp) _ _).trans (by simp)⟩

@[simp] theorem State.boundaryWork_frame (s : State) (exclusionFirst : Bool) :
    (State.boundaryWork s exclusionFirst).inReset = s.inReset ∧ (State.boundaryWork s exclusionFirst).bus = s.bus ∧
      (State.boundaryWork s exclusionFirst).slots = s.slots ∧ (State.boundaryWork s exclusionFirst).assembled = s.assembled ∧
      (State.boundaryWork s exclusionFirst).store = s.store ∧ (State.boundaryWork s exclusionFirst).pending = s.pending := by
  refine ⟨?_, ?_, ?_, ?_, ?_, ?_⟩ <;> (unfold State.boundaryWork; dsimp only; (repeat' split) <;> simp)

@[simp] theorem State.configure_frame (s : State) (r : ConfigRecord) :
    (State.configure s r).1.inReset = s.inReset ∧ (State.configure s r).1.bus = s.bus ∧ (State.configure s r).1.slots = s.slots ∧
      (State.configure s r).1.assembled = s.assembled ∧ (State.configure s r).1.roster = s.roster ∧
      (State.configure s r).1.agreement = s.agreement ∧ (State.configure s r).1.reference = s.reference ∧
      (State.configure s r).1.follower = { s.follower with held := (State.configure s r).1.follower.held } ∧
      (State.configure s r).1.port = s.port ∧
      (State.configure s r).1.pending = s.pending := by
  refine ⟨?_, ?_, ?_, ?_, ?_, ?_, ?_, ?_, ?_, ?_⟩ <;> (unfold State.configure; (repeat' split) <;> simp)

@[simp] theorem State.takeCharacter_frame (s : State) (data : Byte) (mark : Bool) :
    (State.takeCharacter s data mark).inReset = s.inReset ∧ (State.takeCharacter s data mark).slots = s.slots ∧
      (State.takeCharacter s data mark).assembled = s.assembled ∧ (State.takeCharacter s data mark).life = s.life ∧
      (State.takeCharacter s data mark).roster = s.roster ∧ (State.takeCharacter s data mark).agreement = s.agreement ∧
      (State.takeCharacter s data mark).claims = s.claims ∧ (State.takeCharacter s data mark).reference = s.reference ∧
      (State.takeCharacter s data mark).follower = s.follower ∧ (State.takeCharacter s data mark).port = s.port ∧
      (State.takeCharacter s data mark).notices = s.notices ∧ (State.takeCharacter s data mark).store = s.store ∧
      (State.takeCharacter s data mark).pending = s.pending := by
  refine ⟨?_, ?_, ?_, ?_, ?_, ?_, ?_, ?_, ?_, ?_, ?_, ?_, ?_⟩ <;> (unfold State.takeCharacter; (repeat' split) <;> simp)

@[simp] theorem State.leave_frame (s : State) :
    (State.leave s).1.inReset = s.inReset ∧ (State.leave s).1.store = s.store ∧ (State.leave s).1.pending = s.pending := by
  refine ⟨?_, ?_, ?_⟩ <;> (unfold State.leave; (repeat' split) <;> simp)

@[simp] theorem State.withdrawOffer_frame (s : State) :
    (State.withdrawOffer s).1.inReset = s.inReset ∧ (State.withdrawOffer s).1.bus = s.bus ∧
      (State.withdrawOffer s).1.slots = s.slots ∧ (State.withdrawOffer s).1.assembled = s.assembled ∧
      (State.withdrawOffer s).1.life = s.life ∧ (State.withdrawOffer s).1.roster = s.roster ∧
      (State.withdrawOffer s).1.claims = s.claims ∧ (State.withdrawOffer s).1.reference = s.reference ∧
      (State.withdrawOffer s).1.follower = s.follower ∧ (State.withdrawOffer s).1.port = s.port ∧
      (State.withdrawOffer s).1.store = s.store ∧ (State.withdrawOffer s).1.pending = s.pending := by
  simp [State.withdrawOffer]

@[simp] theorem State.takeBoundary_frame (s : State) (exclusionFirst : Bool) :
    (State.takeBoundary s exclusionFirst).inReset = s.inReset ∧ (State.takeBoundary s exclusionFirst).bus = s.bus ∧
      (State.takeBoundary s exclusionFirst).assembled = s.assembled ∧ (State.takeBoundary s exclusionFirst).store = s.store ∧
      (State.takeBoundary s exclusionFirst).pending = s.pending := by
  refine ⟨?_, ?_, ?_, ?_, ?_⟩ <;> (unfold State.takeBoundary; (repeat' split) <;> simp)

@[simp] theorem State.realign_frame (s : State) (k : Station) (endTime bytes : Nat) :
    (State.realign s k endTime bytes).inReset = s.inReset ∧ (State.realign s k endTime bytes).bus = s.bus ∧
      (State.realign s k endTime bytes).assembled = s.assembled ∧ (State.realign s k endTime bytes).life = s.life ∧
      (State.realign s k endTime bytes).agreement = s.agreement ∧ (State.realign s k endTime bytes).claims = s.claims ∧
      (State.realign s k endTime bytes).reference = s.reference ∧ (State.realign s k endTime bytes).follower = s.follower ∧
      (State.realign s k endTime bytes).port = s.port ∧ (State.realign s k endTime bytes).notices = s.notices ∧
      (State.realign s k endTime bytes).store = s.store ∧ (State.realign s k endTime bytes).pending = s.pending := by
  unfold State.realign
  split
  · simp
  · exact ⟨foldl_field (g := State.inReset) (fun s a => by simp) _ _, foldl_field (g := State.bus) (fun s a => by simp) _ _, foldl_field (g := State.assembled) (fun s a => by simp) _ _, foldl_field (g := State.life) (fun s a => by simp) _ _, foldl_field (g := State.agreement) (fun s a => by simp) _ _, foldl_field (g := State.claims) (fun s a => by simp) _ _, foldl_field (g := State.reference) (fun s a => by simp) _ _, foldl_field (g := State.follower) (fun s a => by simp) _ _, foldl_field (g := State.port) (fun s a => by simp) _ _, foldl_field (g := State.notices) (fun s a => by simp) _ _, foldl_field (g := State.store) (fun s a => by simp) _ _, foldl_field (g := State.pending) (fun s a => by simp) _ _⟩

@[simp] theorem State.takeFromMember_frame (s : State) (f : Frame) (endTime bytes : Nat) (order : PartOrder) :
    (State.takeFromMember s f endTime bytes order).inReset = s.inReset ∧ (State.takeFromMember s f endTime bytes order).bus = s.bus ∧
      (State.takeFromMember s f endTime bytes order).assembled = s.assembled ∧
      (State.takeFromMember s f endTime bytes order).follower = s.follower ∧
      (State.takeFromMember s f endTime bytes order).port = s.port ∧ (State.takeFromMember s f endTime bytes order).store = s.store ∧
      (State.takeFromMember s f endTime bytes order).pending = s.pending := by
  refine ⟨?_, ?_, ?_, ?_, ?_, ?_, ?_⟩ <;> (unfold State.takeFromMember; dsimp only; (repeat' split) <;> simp)

@[simp] theorem State.takeFromOutside_frame (s : State) (f : Frame) (endTime bytes : Nat) :
    (State.takeFromOutside s f endTime bytes).inReset = s.inReset ∧ (State.takeFromOutside s f endTime bytes).bus = s.bus ∧
      (State.takeFromOutside s f endTime bytes).assembled = s.assembled ∧ (State.takeFromOutside s f endTime bytes).store = s.store ∧
      (State.takeFromOutside s f endTime bytes).pending = s.pending := by
  refine ⟨?_, ?_, ?_, ?_, ?_⟩ <;> (unfold State.takeFromOutside; dsimp only; (repeat' split) <;> simp)

@[simp] theorem State.handOn_frame (s : State) (f : Frame) (endTime bytes : Nat) (order : PartOrder) :
    (State.handOn s f endTime bytes order).inReset = s.inReset ∧ (State.handOn s f endTime bytes order).store = s.store ∧
      (State.handOn s f endTime bytes order).pending = s.pending := by
  refine ⟨?_, ?_, ?_⟩ <;> (unfold State.handOn; (repeat' split) <;> simp)

@[simp] theorem State.receiveWhole_frame (s : State) (order : PartOrder) :
    (State.receiveWhole s order).inReset = s.inReset ∧ (State.receiveWhole s order).store = s.store ∧
      (State.receiveWhole s order).pending = s.pending := by
  refine ⟨?_, ?_, ?_⟩ <;> (unfold State.receiveWhole; (repeat' split) <;> simp)

end Sys2Proof.Machine
end

