-- ==== Sys2Proof/Laws/Ops.lean ====
section
/-! SUPPORT. What the shared operations do, one lemma each, for proofs to cite in place of unfolding them. -/

namespace Sys2Proof.Machine
open Sys2Proof

/-! ## Guards -/

/-- In reset an event has no effect. -/
theorem outOfReset_held {event : State → State} {s : State} (h : s.inReset = true) : outOfReset event s = .next s := by
  simp [outOfReset, h]

/-- Out of reset an event acts. -/
theorem outOfReset_free {event : State → State} {s : State} (h : s.inReset = false) : outOfReset event s = .next (event s) := by
  simp [outOfReset, h]

/-! ## Transactions -/

theorem State.endTransaction_eq (s : State) : s.endTransaction = s.deselected := rfl

/-- A transaction taken means: out of reset, not lost, no request in processing. -/
theorem State.takesTransaction_iff (s : State) : s.takesTransaction = true ↔
    s.inReset = false ∧ s.port.lost = false ∧ s.port.buffer.isPending = false ∧ s.port.transaction.any (·.discarded) = false := by
  simp [State.takesTransaction, and_assoc]

/-- In reset no transaction is taken. -/
theorem State.takesTransaction_held {s : State} (h : s.inReset = true) : s.takesTransaction = false := by
  simp [State.takesTransaction, h]

/-- A transaction that the port does not take only ends. -/
theorem State.transact_untaken {s : State} (taken : State → State) (h : s.takesTransaction = false) :
    s.transact taken = s.deselected := by
  simp [State.transact, h, State.endTransaction_eq]

/-- A transaction that the port takes. -/
theorem State.transact_taken {s : State} (taken : State → State) (h : s.takesTransaction = true) :
    s.transact taken = taken s.deselected := by
  simp [State.transact, h, State.endTransaction_eq]

/-- A request that the port does not take only ends its transaction. -/
theorem State.takeRequest_untaken {s : State} (kind : Byte) (owner : Owner) (h : s.takesTransaction = false) :
    s.takeRequest kind owner = s.deselected := State.transact_untaken _ h

/-- A request that the port takes: its owner acts, and the answer waits in the buffer. -/
theorem State.takeRequest_taken {s : State} (kind : Byte) (owner : Owner) (h : s.takesTransaction = true) :
    s.takeRequest kind owner = (owner s.deselected).1.beginProcessing kind (some (owner s.deselected).2) :=
  State.transact_taken _ h

/-- A request whose owner reads, or answers without a change. -/
theorem State.takeRequest_read {s : State} (kind : Byte) (read : State → Result × List Byte) (h : s.takesTransaction = true) :
    s.takeRequest kind (answerRead read) = s.answered kind (read s.deselected).1 (read s.deselected).2 := by
  rw [State.takeRequest_taken kind _ h]; rfl

/-! ## Notices -/

/-- A post changes the notices alone. -/
theorem State.post_eq (s : State) (kind : NoticeKind) (station : Nat) (detail : Byte) (value : BitVec 16) :
    s.post kind station detail value = { s with notices := s.noticesAfter [(kind, station, detail, value)] } := rfl

@[simp] theorem State.noticesAfter_nil (s : State) : s.noticesAfter [] = s.notices := rfl

/-- Posts in a row depend on the notices, the cycle count and the configuration store alone. -/
theorem State.noticesAfter_congr {s t : State} (hn : t.notices = s.notices) (hc : t.slots.cycle = s.slots.cycle)
    (hs : t.store = s.store) (posts : List OwnNotice) : t.noticesAfter posts = s.noticesAfter posts := by
  unfold State.noticesAfter
  induction posts generalizing s t with
  | nil => exact hn
  | cons n posts ih =>
    refine ih ?_ (by simpa using hc) (by simpa using hs)
    simp [State.post, State.examineAttention, State.attentionMask, hn, hc, hs]

/-- Posts in a row, one after another. -/
theorem State.noticesAfter_cons (s : State) (n : OwnNotice) (posts : List OwnNotice) :
    s.noticesAfter (n :: posts) = { s with notices := s.noticesAfter [n] }.noticesAfter posts := rfl

theorem State.noticesAfter_append (s : State) (a b : List OwnNotice) :
    s.noticesAfter (a ++ b) = { s with notices := s.noticesAfter a }.noticesAfter b := by
  induction a generalizing s with
  | nil => rfl
  | cons n a ih => rw [List.cons_append, State.noticesAfter_cons, ih, State.noticesAfter_cons s n a]

/-- One more post goes on a run of posts. -/
theorem State.noticesAfter_snoc {s t : State} {posts : List OwnNotice} (hn : t.notices = s.noticesAfter posts)
    (hc : t.slots.cycle = s.slots.cycle) (hs : t.store = s.store) (n : OwnNotice) :
    (t.post n.1 n.2.1 n.2.2.1 n.2.2.2).notices = s.noticesAfter (posts ++ [n]) := by
  rw [State.noticesAfter_append]
  exact State.noticesAfter_congr (t := t) (s := { s with notices := s.noticesAfter posts }) hn hc hs [n]

/-- STATION_STATE is one post. -/
theorem State.postStationState_eq (s : State) (previous : StationState) :
    s.postStationState previous = { s with notices := s.noticesAfter [stationStateNotice s.life.state previous] } := rfl

/-- OFFER_RESULT is one post. -/
theorem State.postOfferResult_eq (s : State) (outcome : OfferOutcome) (serial : Byte) (station : Nat) (reason : Byte) :
    s.postOfferResult outcome serial station reason =
      { s with notices := s.noticesAfter [offerResultNotice outcome serial station reason] } := rfl

/-- A raise on a clear claim. -/
theorem State.raise_clear {s : State} (cause : StopCause) (h : s.claims.stop = none) :
    s.raise cause = { s with
      claims := { s.claims with stop := some { cause := cause, effective := none, inForce := false, reported := [] } }
      notices := s.noticesAfter [(.stopClaim, stationNumber s.own, cause.code, 0)] } := by
  simp [State.raise, h]; rfl

/-- A raise on a set claim: nothing, or CAUSE_ALSO for a further cause. -/
theorem State.raise_set {s : State} (cause : StopCause) {k : OwnStop} (h : s.claims.stop = some k) :
    s.raise cause = if cause = k.cause ∨ cause ∈ k.reported then s else { s with
      claims := { s.claims with stop := some { k with reported := k.reported ++ [cause] } }
      notices := s.noticesAfter [(.causeAlso, stationNumber s.own, cause.code, k.cause.code.setWidth 16)] } := by
  simp [State.raise, h]; rfl

/-- A raise leaves a claim set. -/
theorem State.raise_isSome (s : State) (cause : StopCause) : (s.raise cause).claims.stop.isSome = true := by
  cases h : s.claims.stop with
  | none => simp [State.raise_clear cause h]
  | some k => rw [State.raise_set cause h]; split <;> simp [h]

/-- The own entry discarded at an exit, with its notice. -/
theorem State.discardTable_eq (s : State) : s.discardTable = { s with
    agreement := { s.agreement with own := none, others := [] }, notices := s.noticesAfter (discardNotices s.agreement.own) } := by
  unfold State.discardTable discardNotices
  cases s.agreement.own with
  | none => rfl
  | some e => cases h : e.phase <;> simp only [h] <;> rfl

/-! ## Other cycle counts -/

@[simp] theorem State.atCycle_notices (s : State) (c : Cycle) : (s.atCycle c).notices = s.notices := rfl
@[simp] theorem State.atCycle_store (s : State) (c : Cycle) : (s.atCycle c).store = s.store := rfl
@[simp] theorem State.atCycle_cycle (s : State) (c : Cycle) : (s.atCycle c).slots.cycle = c := rfl

/-! ## Frames received whole -/

/-- With no frame received whole, RECEIVED_WHOLE changes nothing. -/
theorem State.receiveWhole_none {s : State} (order : PartOrder) (h : ∀ r, s.bus.receipt = some r → r.endTime = none) :
    s.receiveWhole order = s := by
  unfold State.receiveWhole
  cases hr : s.bus.receipt with
  | none => rfl
  | some r => simp [h r hr]

/-- An invalid frame leaves the bus port. -/
theorem State.receiveWhole_invalid {s : State} (order : PartOrder) {r : Receipt} {e : Nat} (hr : s.bus.receipt = some r)
    (he : r.endTime = some e) (h : crcAgrees r.bytes = false ∨ validFrame r.bytes = none) :
    s.receiveWhole order = s.setReceipt none := by
  unfold State.receiveWhole
  rcases h with h | h <;> simp [hr, he, h]

/-- A valid frame leaves the bus port and is handed on. -/
theorem State.receiveWhole_valid {s : State} (order : PartOrder) {r : Receipt} {e : Nat} {f : Frame} (hr : s.bus.receipt = some r)
    (he : r.endTime = some e) (hc : crcAgrees r.bytes = true) (hv : validFrame r.bytes = some f) :
    s.receiveWhole order = (s.setReceipt none).handOn f e r.bytes.length order := by
  simp [State.receiveWhole, hr, he, hc, hv]

/-! ## Sets of stations -/

theorem mem_allStations (k : Station) : k ∈ allStations := List.mem_finRange k

@[simp] theorem contains_zero (k : Station) : contains 0#16 k = false := by simp [contains]

@[simp] theorem contains_singleton (j k : Station) : contains (singleton j) k = decide (k = j) := by
  revert j k; decide

@[simp] theorem contains_setInsert (a : StationSet) (j k : Station) : contains (setInsert a j) k = (contains a k || decide (k = j)) := by
  rw [← contains_singleton]; simp [contains, setInsert]

@[simp] theorem contains_setRemove (a : StationSet) (j k : Station) : contains (setRemove a j) k = (contains a k && decide (k ≠ j)) := by
  simp only [decide_not, ← contains_singleton]
  simp [contains, setRemove]

theorem contains_foldl_setInsert (l : List Station) (a : StationSet) (k : Station) :
    contains (l.foldl setInsert a) k = (contains a k || decide (k ∈ l)) := by
  induction l generalizing a with
  | nil => simp
  | cons j l ih => simp [ih, Bool.or_assoc]

/-- The set of the stations that a test accepts holds exactly those. -/
@[simp] theorem contains_setOf (p : Station → Bool) (k : Station) : contains (setOf p) k = p k := by
  simp [setOf, contains_foldl_setInsert, mem_allStations]

/-- Sets with the same stations are equal. -/
theorem stationSet_ext {a b : StationSet} (h : ∀ k, contains a k = contains b k) : a = b := by
  apply BitVec.eq_of_getLsbD_eq
  intro i hi
  exact h ⟨i, hi⟩

theorem setOf_congr {p q : Station → Bool} (h : ∀ k, p k = q k) : setOf p = setOf q := by
  rw [show p = q from funext h]

/-- One set lies within another where each of its stations does. -/
theorem subset_iff (a b : StationSet) : subset a b = true ↔ ∀ k, contains a k = true → contains b k = true := by
  simp only [subset, beq_iff_eq]
  constructor
  · intro h k hk
    rw [← h] at hk
    simp [contains] at hk ⊢
    exact hk.2
  · intro h
    apply stationSet_ext
    intro k
    have := h k
    simp only [contains, BitVec.getLsbD_and] at *
    cases ha : a.getLsbD k.val <;> simp_all

/-! ## Bytes -/

theorem byteSum_append (a b : List Byte) : byteSum (a ++ b) = byteSum a + byteSum b := by
  have key : ∀ (l : List Byte) (x : Byte), l.foldl (· + ·) x = x + l.foldl (· + ·) 0 := by
    intro l
    induction l with
    | nil => simp
    | cons y l ih => intro x; simp only [List.foldl_cons]; rw [ih (x + y), ih (0 + y)]; simp [BitVec.add_assoc]
  unfold byteSum
  rw [List.foldl_append, key b]

/-- Every envelope with its check byte sums to 0 modulo 256 (R151). -/
@[simp] theorem byteSum_withCheck (bytes : List Byte) : byteSum (withCheck bytes) = 0 := by
  rw [withCheck, byteSum_append, checkByte, show byteSum [-byteSum bytes] = -byteSum bytes by simp [byteSum], BitVec.add_comm]
  bv_omega

end Sys2Proof.Machine
end

