-- ==== Sys2Proof/Laws/Exits.lean ====
section
/-! SUPPORT. What the two exits of Table 5-6 do, kinds (a) and (b), once each: every later proof about a change of station state cites
these. -/

namespace Sys2Proof.Machine
open Sys2Proof

/-- The own notice, STATION_STATE and the discarded entry's notice, posted in a row on top of the same notices, cycle and store. -/
theorem State.exitNotices {s t : State} {next previous : StationState} {posts : List OwnNotice} {own : Option OwnEntry}
    (hn : t.notices = s.noticesAfter posts) (hc : t.slots.cycle = s.slots.cycle) (hs : t.store = s.store)
    (hl : t.life.state = next) (ha : t.agreement.own = own) :
    (t.postStationState previous).discardTable.notices =
      s.noticesAfter (posts ++ stationStateNotice next previous :: discardNotices own) := by
  subst hl ha
  rw [State.discardTable_eq, List.append_cons, State.noticesAfter_append]
  refine State.noticesAfter_congr
    (s := { s with notices := s.noticesAfter (posts ++ [stationStateNotice t.life.state previous]) }) ?_ ?_ ?_ _
  · exact State.noticesAfter_snoc hn hc hs (stationStateNotice t.life.state previous)
  · simpa using hc
  · simpa using hs

/-- A change's own notice, if it has one, is one post. -/
theorem State.postOwn_notices {s t : State} (notice : Option OwnNotice) (hn : t.notices = s.notices)
    (hc : t.slots.cycle = s.slots.cycle) (hs : t.store = s.store) : (t.postOwn notice).notices = s.noticesAfter notice.toList := by
  cases notice with
  | none => exact hn
  | some n => exact State.noticesAfter_snoc (posts := []) hn hc hs n

/-- The blocks that a change of kind (a) leaves, but for the timing, the table, the station state and the notices. -/
theorem State.leaveBlocks_eq (s : State) : s.leaveBlocks = { s with
    reference := s.reference.exited
    bus := { s.bus with transmit := .idle, bde := false, btxIdle := true }
    assembled := none
    roster := Roster.reset
    claims := { s.claims.unannounced with view := Vector.replicate 16 none, runPermit := false }
    follower := Follower.idle s.follower.record.cycle
    port := s.port.countCleared
    life := { s.life with
      listenTimer := none, quiet := 0, exclusion := 0, joiningSince := none, admitting := none, joinHeard := false,
      memberHeard := false, ownSeen := false, firstSet := none, islandReported := 0 } } := rfl

/-- The blocks that a change of kind (a) leaves, but for the table, the station state and the notices. -/
theorem State.leaveLine_eq (s : State) : s.leaveLine = { s.leaveBlocks with
    slots := { s.slots with timing := none, cycle := 0, atBoundary := false } } := rfl

/-- The blocks that a change of kind (b) leaves, but for the table, the station state and the notices. -/
theorem State.leaveMembership_eq (s : State) : s.leaveMembership = { s with
    reference := s.reference.exited
    roster := Roster.reset
    claims := { s.claims.unannounced with view := Vector.replicate 16 none, runPermit := false }
    follower := Follower.idle s.follower.record.cycle
    port := s.port.countCleared
    life := { s.life with
      listenTimer := none, quiet := 0, joiningSince := none, admitting := none, joinHeard := false,
      memberHeard := false, ownSeen := false, firstSet := none, islandReported := 0 } } := rfl

/-- The station state, the notices and the table of a change of kind (a): the whole of what it does. -/
theorem State.turnSilent_eq (s : State) (previous next : StationState) (isolation : Option IsolationCause) (notice : Option OwnNotice) :
    s.turnSilent previous next isolation notice = { s with
      life := { s.life with state := next, isolation := isolation }
      agreement := { s.agreement with own := none, others := [] }
      notices := s.noticesAfter (notice.toList ++ stationStateNotice next previous :: discardNotices s.agreement.own) } := by
  let t : State := { s with life := { s.life with state := next, isolation := isolation } }
  have hp : (t.postOwn notice) = { t with notices := (t.postOwn notice).notices } := by cases notice <;> rfl
  have hn : (s.turnSilent previous next isolation notice).notices = _ := State.exitNotices (s := s) (t := t.postOwn notice)
    (previous := previous) (posts := notice.toList) (next := next) (own := s.agreement.own)
    (State.postOwn_notices (s := s) (t := t) notice rfl rfl rfl) (by rw [hp]) (by rw [hp]) (by rw [hp]) (by rw [hp])
  rw [← hn]
  cases notice <;> (unfold State.turnSilent; rw [State.discardTable_eq, State.postStationState_eq]; rfl)

/-- A change of kind (a) from any state: the whole of what it leaves (R106). -/
theorem State.goSilent_eq (s : State) (next : StationState) (isolation : Option IsolationCause) (notice : Option OwnNotice) :
    s.goSilent next isolation notice = { s.leaveLine with
      life := { s.leaveLine.life with state := next, isolation := isolation }
      agreement := { s.agreement with own := none, others := [] }
      notices := (s.atCycle 0).noticesAfter
        (notice.toList ++ stationStateNotice next s.life.state :: discardNotices s.agreement.own) } := by
  rw [State.goSilent, State.turnSilent_eq,
    State.noticesAfter_congr (s := s.atCycle 0) (t := s.leaveLine) rfl rfl rfl]
  rfl

/-- A change of kind (a) at a cycle boundary: the whole of what it leaves, its notices at the count of the new cycle (R96, R161). -/
theorem State.goSilentAtBoundary_eq (s : State) (next : StationState) :
    s.goSilentAtBoundary next = { s.leaveLine with
      life := { s.leaveLine.life with state := next }
      agreement := { s.agreement with own := none, others := [] }
      notices := s.noticesAfter (stationStateNotice next s.life.state :: discardNotices s.agreement.own) } := by
  rw [State.goSilentAtBoundary, State.turnSilent_eq,
    State.noticesAfter_congr (s := s) (t := s.leaveBlocks) rfl rfl rfl]
  rfl

/-- A change of kind (b): the whole of what it leaves (R106). -/
theorem State.rejoin_eq (s : State) (notice : Option OwnNotice) :
    s.rejoin notice = { s.leaveMembership with
      life := { s.leaveMembership.life with state := .joining }
      agreement := { s.agreement with own := none, others := [] }
      notices := s.noticesAfter
        (notice.toList ++ stationStateNotice .joining s.life.state :: discardNotices s.agreement.own) } := by
  let t : State := { s.leaveMembership with life := { s.leaveMembership.life with state := .joining } }
  have hp : (t.postOwn notice) = { t with notices := (t.postOwn notice).notices } := by cases notice <;> rfl
  have hn : (s.rejoin notice).notices = _ := State.exitNotices (s := s) (t := t.postOwn notice)
    (previous := s.life.state) (posts := notice.toList) (next := .joining) (own := s.agreement.own)
    (State.postOwn_notices (s := s) (t := t) notice rfl rfl rfl) (by rw [hp]; rfl) (by rw [hp]; rfl) (by rw [hp]) (by rw [hp]; rfl)
  rw [← hn]
  cases notice <;> (unfold State.rejoin; rw [State.discardTable_eq, State.postStationState_eq]; rfl)

/-- A change of kind (a) is a silent exit (Table 5-6, column (a)). -/
theorem State.goSilent_exit (s : State) (next : StationState) (isolation : Option IsolationCause) (notice : Option OwnNotice) :
    SilentExit s (s.goSilent next isolation notice) := by
  rw [State.goSilent_eq]
  constructor <;> simp [State.leaveLine_eq, State.leaveBlocks_eq]

/-- A change of kind (a) at a cycle boundary is a silent exit too. -/
theorem State.goSilentAtBoundary_exit (s : State) (next : StationState) : SilentExit s (s.goSilentAtBoundary next) := by
  rw [State.goSilentAtBoundary_eq]
  constructor <;> simp [State.leaveLine_eq, State.leaveBlocks_eq]

/-- A change of kind (b) is a membership exit (Table 5-6, column (b)). -/
theorem State.rejoin_exit (s : State) (notice : Option OwnNotice) : MembershipExit s (s.rejoin notice) := by
  rw [State.rejoin_eq]
  constructor <;> simp [State.leaveMembership_eq, ReferenceUnit.exited]

end Sys2Proof.Machine
end

