-- ==== Sys2Proof/Laws/PerInstr.lean ====
section
/-! SUPPORT. One law of every command as syntax, a lemma a constructor: what a request's envelope is as the section controller shifts it in. -/

namespace Sys2Proof.Laws
open Sys2Proof Sys2Proof.Machine

/-- An envelope of a body within the length byte: its check byte makes the sum 0, and its length byte is the body's (Table 12-3). -/
theorem requestEnvelope_shape {kind : Byte} {body : List Byte} (h : body.length ≤ 48) :
    3 ≤ (requestEnvelope kind body).length ∧ (requestEnvelope kind body).length ≤ 51 ∧ byteSum (requestEnvelope kind body) = 0 := by
  exact ⟨by simp [requestEnvelope], by simp [requestEnvelope]; omega, byteSum_withCheck _⟩

/-- R152, Table 12-3: the envelope of a request is 3 to 51 bytes long, and its bytes sum to 0 modulo 256. A command that is no request has
none. -/
def EnvelopeShape.Statement (i : Instr) : Prop :=
  ∀ bytes, encodeRequest i = some bytes → 3 ≤ bytes.length ∧ bytes.length ≤ 51 ∧ byteSum bytes = 0

/-- A request whose body is short enough has an envelope of that shape. -/
theorem EnvelopeShape.of_parts {i : Instr} {kind : Byte} {body : List Byte} (h : requestParts i = some (kind, body))
    (hb : body.length ≤ 48) : EnvelopeShape.Statement i := by
  intro bytes hi
  simp only [encodeRequest, h, Option.map_some, Option.some.injEq] at hi
  exact hi ▸ requestEnvelope_shape hb

theorem EnvelopeShape.powerOn : EnvelopeShape.Statement .powerOn := nofun

theorem EnvelopeShape.resetN : EnvelopeShape.Statement .resetN := nofun

theorem EnvelopeShape.resetComplete (straps : BitVec 4) : EnvelopeShape.Statement (.resetComplete straps) := nofun

theorem EnvelopeShape.stopInputRecognised (input : Fin 4) (high : Bool) : EnvelopeShape.Statement (.stopInputRecognised input high) := nofun

theorem EnvelopeShape.transactionStart : EnvelopeShape.Statement .transactionStart := nofun

theorem EnvelopeShape.shortTransaction (wholeBytes : Nat) : EnvelopeShape.Statement (.shortTransaction wholeBytes) := nofun

theorem EnvelopeShape.badFormat (kind : Byte) : EnvelopeShape.Statement (.badFormat kind) := nofun

theorem EnvelopeShape.unknownRequest (kind : Byte) : EnvelopeShape.Statement (.unknownRequest kind) := nofun

theorem EnvelopeShape.transactionDiscarded : EnvelopeShape.Statement .transactionDiscarded := nofun

theorem EnvelopeShape.nop : EnvelopeShape.Statement .nop := EnvelopeShape.of_parts rfl (by simp)

theorem EnvelopeShape.configure (record : ConfigRecord) : EnvelopeShape.Statement (.configure record) :=
  EnvelopeShape.of_parts rfl (by simp [halfBytes, wordBytes, recordBytes, linePartBytes, localPartBytes])

theorem EnvelopeShape.join : EnvelopeShape.Statement .join := EnvelopeShape.of_parts rfl (by simp)

theorem EnvelopeShape.leave : EnvelopeShape.Statement .leave := EnvelopeShape.of_parts rfl (by simp)

theorem EnvelopeShape.offerStart (target : Speed) : EnvelopeShape.Statement (.offerStart target) := EnvelopeShape.of_parts rfl (by simp [halfBytes])

theorem EnvelopeShape.offerRamp (target : Speed) : EnvelopeShape.Statement (.offerRamp target) := EnvelopeShape.of_parts rfl (by simp [halfBytes])

theorem EnvelopeShape.withdrawOffer : EnvelopeShape.Statement .withdrawOffer := EnvelopeShape.of_parts rfl (by simp)

theorem EnvelopeShape.raiseStop : EnvelopeShape.Statement .raiseStop := EnvelopeShape.of_parts rfl (by simp)

theorem EnvelopeShape.clearStop : EnvelopeShape.Statement .clearStop := EnvelopeShape.of_parts rfl (by simp)

theorem EnvelopeShape.setHold : EnvelopeShape.Statement .setHold := EnvelopeShape.of_parts rfl (by simp)

theorem EnvelopeShape.releaseHold : EnvelopeShape.Statement .releaseHold := EnvelopeShape.of_parts rfl (by simp)

theorem EnvelopeShape.report (position : Position) (flags : Byte) : EnvelopeShape.Statement (.report position flags) :=
  EnvelopeShape.of_parts rfl (by simp [halfBytes, wordBytes])

theorem EnvelopeShape.readSetpoint : EnvelopeShape.Statement .readSetpoint := EnvelopeShape.of_parts rfl (by simp)

theorem EnvelopeShape.readStatus : EnvelopeShape.Statement .readStatus := EnvelopeShape.of_parts rfl (by simp)

theorem EnvelopeShape.readRoster (number : Byte) : EnvelopeShape.Statement (.readRoster number) := EnvelopeShape.of_parts rfl (by simp)

theorem EnvelopeShape.readProposal (origin : Byte) : EnvelopeShape.Statement (.readProposal origin) := EnvelopeShape.of_parts rfl (by simp)

theorem EnvelopeShape.readNotice : EnvelopeShape.Statement .readNotice := EnvelopeShape.of_parts rfl (by simp)

theorem EnvelopeShape.readConfig : EnvelopeShape.Statement .readConfig := EnvelopeShape.of_parts rfl (by simp)

theorem EnvelopeShape.restart : EnvelopeShape.Statement .restart := EnvelopeShape.of_parts rfl (by simp)

theorem EnvelopeShape.transmitOffset : EnvelopeShape.Statement .transmitOffset := nofun

theorem EnvelopeShape.collision : EnvelopeShape.Statement .collision := nofun

theorem EnvelopeShape.busFault : EnvelopeShape.Statement .busFault := nofun

theorem EnvelopeShape.transmitEnd : EnvelopeShape.Statement .transmitEnd := nofun

theorem EnvelopeShape.receivedWhole (order : PartOrder) : EnvelopeShape.Statement (.receivedWhole order) := nofun

theorem EnvelopeShape.gap : EnvelopeShape.Statement .gap := nofun

theorem EnvelopeShape.frameAbandoned (why : AbandonReason) : EnvelopeShape.Statement (.frameAbandoned why) := nofun

theorem EnvelopeShape.slotClose (slot : Station) : EnvelopeShape.Statement (.slotClose slot) := nofun

theorem EnvelopeShape.missedLimit (station : Station) : EnvelopeShape.Statement (.missedLimit station) := nofun

theorem EnvelopeShape.leavingComplete : EnvelopeShape.Statement .leavingComplete := nofun

theorem EnvelopeShape.withdrawnEntryRemoved : EnvelopeShape.Statement .withdrawnEntryRemoved := nofun

theorem EnvelopeShape.cycleBoundary (exclusionFirst : Bool) : EnvelopeShape.Statement (.cycleBoundary exclusionFirst) := nofun

theorem EnvelopeShape.lagHold : EnvelopeShape.Statement .lagHold := nofun

theorem EnvelopeShape.localSilent : EnvelopeShape.Statement .localSilent := nofun

theorem EnvelopeShape.expired : EnvelopeShape.Statement .expired := nofun

theorem EnvelopeShape.gracePeriod : EnvelopeShape.Statement .gracePeriod := nofun

theorem EnvelopeShape.excluded : EnvelopeShape.Statement .excluded := nofun

theorem EnvelopeShape.quietCountExpiry : EnvelopeShape.Statement .quietCountExpiry := nofun

theorem EnvelopeShape.ownSlotStart : EnvelopeShape.Statement .ownSlotStart := nofun

theorem EnvelopeShape.listenWindowExpiry : EnvelopeShape.Statement .listenWindowExpiry := nofun

theorem EnvelopeShape.responseReady : EnvelopeShape.Statement .responseReady := nofun

theorem EnvelopeShape.characterReceived (data : Byte) (mark : Bool) : EnvelopeShape.Statement (.characterReceived data mark) := nofun

end Sys2Proof.Laws
end

