-- ==== Sys2Proof/Laws/Shift.lean ====
section
/-! SUPPORT. Lemmas of the shift register (R150): what the edges of SCK change, and bytes from their bits. -/

namespace Sys2Proof.Machine
open Sys2Proof

/-- An edge of SCK changes the transaction in progress alone. -/
theorem State.shift_frame (s : State) (change : Transaction → Transaction) :
    s.shift change = { s with port := { s.port with transaction := (s.shift change).port.transaction } } := rfl

@[simp] theorem State.shift_transaction (s : State) (change : Transaction → Transaction) :
    (s.shift change).port.transaction = s.port.transaction.map change := rfl

@[simp] theorem State.shift_lost (s : State) (change : Transaction → Transaction) : (s.shift change).port.lost = s.port.lost := rfl

@[simp] theorem State.shift_buffer (s : State) (change : Transaction → Transaction) :
    (s.shift change).port.buffer = s.port.buffer := rfl

/-- A byte is read back from its bits. -/
theorem byteOfBits_bitsOfByte : ∀ b : Byte, byteOfBits (bitsOfByte b) = b := by decide +kernel

/-- An incomplete byte is not counted. -/
theorem bytesOf_short : ∀ bits : List Bool, bits.length < 8 → bytesOf bits = []
  | [], _ | [_], _ | [_, _], _ | [_, _, _], _ | [_, _, _, _], _ | [_, _, _, _, _], _ | [_, _, _, _, _, _], _
  | [_, _, _, _, _, _, _], _ => rfl
  | _ :: _ :: _ :: _ :: _ :: _ :: _ :: _ :: _, h => by simp at h; omega

/-- Whole bytes shifted in are read back, and the bits of an incomplete one after them are not. -/
theorem bytesOf_bitsOf (bytes : List Byte) (rest : List Bool) (h : rest.length < 8) : bytesOf (bitsOf bytes ++ rest) = bytes := by
  induction bytes with
  | nil => exact bytesOf_short rest h
  | cons b bytes ih =>
    have head : bytesOf (bitsOf (b :: bytes) ++ rest) = byteOfBits (bitsOfByte b) :: bytesOf (bitsOf bytes ++ rest) := by
      simp only [bitsOf, List.flatMap_cons, List.append_assoc]; rfl
    rw [head, byteOfBits_bitsOfByte, ih]

end Sys2Proof.Machine
end

