-- ==== Sys2Proof/Laws/Step.lean ====
section
/-! SUPPORT. What each command runs, one equation a command, and the two inductions over a step: what every operation keeps, every command and
every step keeps. -/

namespace Sys2Proof.Machine
open Sys2Proof

/-! ## One equation a command -/

theorem exec_powerOn (s : State) :
    exec .powerOn s = .next (s.enterReset .power) := rfl

theorem exec_resetN (s : State) :
    exec .resetN s = .next (s.enterReset (pinCause s)) := rfl

theorem exec_resetComplete (straps : BitVec 4) (s : State) :
    exec (.resetComplete straps) s = .next (if s.inReset then s.completeReset straps else s) := rfl

theorem exec_stopInputRecognised (input : Fin 4) (high : Bool) (s : State) :
    exec (.stopInputRecognised input high) s = outOfReset (fun t => t.recogniseInput input high) s := rfl

theorem exec_transactionStart (s : State) :
    exec .transactionStart s = .next s.startTransaction := rfl

theorem exec_shortTransaction (wholeBytes : Nat) (s : State) :
    exec (.shortTransaction wholeBytes) s = .next s.endTransaction := rfl

theorem exec_badFormat (kind : Byte) (s : State) :
    exec (.badFormat kind) s = .next (s.takeRequest kind (answerRead fun _ => (.badFormat, []))) := rfl

theorem exec_unknownRequest (kind : Byte) (s : State) :
    exec (.unknownRequest kind) s = .next (s.takeRequest kind (answerRead fun _ => (.unknownRequest, []))) := rfl

theorem exec_transactionDiscarded (s : State) :
    exec .transactionDiscarded s = .next s.endTransaction := rfl

theorem exec_nop (s : State) :
    exec .nop s = .next (s.transact State.takeNop) := rfl

theorem exec_configure (record : ConfigRecord) (s : State) :
    exec (.configure record) s = .next (s.takeRequest 0x01 fun t => t.configure record) := rfl

theorem exec_join (s : State) :
    exec .join s = .next (s.takeRequest 0x02 State.join) := rfl

theorem exec_leave (s : State) :
    exec .leave s = .next (s.takeRequest 0x03 State.leave) := rfl

theorem exec_offerStart (target : Speed) (s : State) :
    exec (.offerStart target) s = .next (s.takeRequest 0x10 fun t => t.takeOffer .start target) := rfl

theorem exec_offerRamp (target : Speed) (s : State) :
    exec (.offerRamp target) s = .next (s.takeRequest 0x11 fun t => t.takeOffer .rampTo target) := rfl

theorem exec_withdrawOffer (s : State) :
    exec .withdrawOffer s = .next (s.takeRequest 0x12 State.withdrawOffer) := rfl

theorem exec_raiseStop (s : State) :
    exec .raiseStop s = .next (s.takeRequest 0x20 (answerOk fun t => t.raise .localRequest)) := rfl

theorem exec_clearStop (s : State) :
    exec .clearStop s = .next (s.takeRequest 0x21 State.takeClearStop) := rfl

theorem exec_setHold (s : State) :
    exec .setHold s = .next (s.takeRequest 0x22 (answerOk (State.setManualHold true))) := rfl

theorem exec_releaseHold (s : State) :
    exec .releaseHold s = .next (s.takeRequest 0x23 (answerOk (State.setManualHold false))) := rfl

theorem exec_report (position : Position) (flags : Byte) (s : State) :
    exec (.report position flags) s = .next (s.takeRequest 0x30 (State.answerReport position flags)) := rfl

theorem exec_readSetpoint (s : State) :
    exec .readSetpoint s = .next (s.takeRequest 0x31 (answerRead State.readSetpoint)) := rfl

theorem exec_readStatus (s : State) :
    exec .readStatus s = .next (s.takeRequest 0x40 State.answerStatus) := rfl

theorem exec_readRoster (number : Byte) (s : State) :
    exec (.readRoster number) s = .next (s.takeRequest 0x41 (answerRead (State.readRoster number))) := rfl

theorem exec_readProposal (origin : Byte) (s : State) :
    exec (.readProposal origin) s = .next (s.takeRequest 0x42 (answerRead (State.readProposal origin))) := rfl

theorem exec_readNotice (s : State) :
    exec .readNotice s = .next (s.takeRequest 0x43 State.answerNotice) := rfl

theorem exec_readConfig (s : State) :
    exec .readConfig s = .next (s.takeRequest 0x44 (answerRead State.readConfig)) := rfl

theorem exec_restart (s : State) :
    exec .restart s = .next (s.transact State.takeRestart) := rfl

theorem exec_transmitOffset (s : State) :
    exec .transmitOffset s = outOfReset State.beginTransmission s := rfl

theorem exec_collision (s : State) :
    exec .collision s = outOfReset State.collide s := rfl

theorem exec_busFault (s : State) :
    exec .busFault s = outOfReset State.isolateOnCollisions s := rfl

theorem exec_transmitEnd (s : State) :
    exec .transmitEnd s = outOfReset State.endTransmission s := rfl

theorem exec_receivedWhole (order : PartOrder) (s : State) :
    exec (.receivedWhole order) s = outOfReset (fun t => t.receiveWhole order) s := rfl

theorem exec_gap (s : State) :
    exec .gap s = outOfReset State.abandonOnGap s := rfl

theorem exec_frameAbandoned (why : AbandonReason) (s : State) :
    exec (.frameAbandoned why) s = outOfReset (fun t => t.abandon why) s := rfl

theorem exec_slotClose (slot : Station) (s : State) :
    exec (.slotClose slot) s = outOfReset (fun t => t.closeSlot slot) s := rfl

theorem exec_missedLimit (station : Station) (s : State) :
    exec (.missedLimit station) s = outOfReset (State.missedLimitEvent station) s := rfl

theorem exec_leavingComplete (s : State) :
    exec .leavingComplete s = outOfReset State.finishLeaving s := rfl

theorem exec_withdrawnEntryRemoved (s : State) :
    exec .withdrawnEntryRemoved s = outOfReset State.removeWithdrawn s := rfl

theorem exec_cycleBoundary (exclusionFirst : Bool) (s : State) :
    exec (.cycleBoundary exclusionFirst) s = outOfReset (fun t => t.takeBoundary exclusionFirst) s := rfl

theorem exec_lagHold (s : State) :
    exec .lagHold s = outOfReset State.takeLag s := rfl

theorem exec_localSilent (s : State) :
    exec .localSilent s = outOfReset State.takeSilent s := rfl

theorem exec_expired (s : State) :
    exec .expired s = outOfReset State.expireOffer s := rfl

theorem exec_gracePeriod (s : State) :
    exec .gracePeriod s = outOfReset State.endGrace s := rfl

theorem exec_excluded (s : State) :
    exec .excluded s = outOfReset State.exclude s := rfl

theorem exec_quietCountExpiry (s : State) :
    exec .quietCountExpiry s = outOfReset State.expireQuiet s := rfl

theorem exec_ownSlotStart (s : State) :
    exec .ownSlotStart s = outOfReset State.takeSlotStart s := rfl

theorem exec_listenWindowExpiry (s : State) :
    exec .listenWindowExpiry s = outOfReset State.expireWindow s := rfl

theorem exec_responseReady (s : State) :
    exec .responseReady s = .next (if s.inReset then s.endRestart else s.completeProcessing) := rfl

theorem exec_characterReceived (data : Byte) (mark : Bool) (s : State) :
    exec (.characterReceived data mark) s = outOfReset (fun t => t.takeCharacter data mark) s := rfl

/-! ## What every operation keeps, every step keeps -/

/-- A property of states that every operation of the station keeps. The operations that events call and those by which owners take requests run
out of reset only. -/
structure Kept (Inv : State → Prop) : Prop where
  port : ∀ s p, Inv s → Inv { s with port := p }
  reset : ∀ s cause, Inv s → Inv (s.enterReset cause)
  complete : ∀ s straps, s.inReset = true → Inv s → Inv (s.completeReset straps)
  recogniseInput : ∀ (s : State) (n : Fin 4) (high : Bool), s.inReset = false → Inv s → Inv (s.recogniseInput n high)
  beginTransmission : ∀ s : State, s.inReset = false → Inv s → Inv (s.beginTransmission)
  collide : ∀ s : State, s.inReset = false → Inv s → Inv (s.collide)
  isolateOnCollisions : ∀ s : State, s.inReset = false → Inv s → Inv (s.isolateOnCollisions)
  endTransmission : ∀ s : State, s.inReset = false → Inv s → Inv (s.endTransmission)
  receiveWhole : ∀ (s : State) (order : PartOrder), s.inReset = false → Inv s → Inv (s.receiveWhole order)
  abandonOnGap : ∀ s : State, s.inReset = false → Inv s → Inv (s.abandonOnGap)
  abandon : ∀ (s : State) (why : AbandonReason), s.inReset = false → Inv s → Inv (s.abandon why)
  takeCharacter : ∀ (s : State) (data : Byte) (mark : Bool), s.inReset = false → Inv s → Inv (s.takeCharacter data mark)
  closeSlot : ∀ (s : State) (k : Station), s.inReset = false → Inv s → Inv (s.closeSlot k)
  takeBoundary : ∀ (s : State) (exclusionFirst : Bool), s.inReset = false → Inv s → Inv (s.takeBoundary exclusionFirst)
  takeSlotStart : ∀ s : State, s.inReset = false → Inv s → Inv (s.takeSlotStart)
  expireWindow : ∀ s : State, s.inReset = false → Inv s → Inv (s.expireWindow)
  missedLimitEvent : ∀ (s : State) (k : Station), s.inReset = false → Inv s → Inv (s.missedLimitEvent k)
  finishLeaving : ∀ s : State, s.inReset = false → Inv s → Inv (s.finishLeaving)
  removeWithdrawn : ∀ s : State, s.inReset = false → Inv s → Inv (s.removeWithdrawn)
  takeLag : ∀ s : State, s.inReset = false → Inv s → Inv (s.takeLag)
  takeSilent : ∀ s : State, s.inReset = false → Inv s → Inv (s.takeSilent)
  expireOffer : ∀ s : State, s.inReset = false → Inv s → Inv (s.expireOffer)
  endGrace : ∀ s : State, s.inReset = false → Inv s → Inv (s.endGrace)
  exclude : ∀ s : State, s.inReset = false → Inv s → Inv (s.exclude)
  expireQuiet : ∀ s : State, s.inReset = false → Inv s → Inv (s.expireQuiet)
  configure : ∀ (s : State) (record : ConfigRecord), s.inReset = false → Inv s → Inv ((s.configure record).1)
  join : ∀ s : State, s.inReset = false → Inv s → Inv (s.join.1)
  leave : ∀ s : State, s.inReset = false → Inv s → Inv (s.leave.1)
  takeOffer : ∀ (s : State) (kind : OfferKind) (target : Speed), s.inReset = false → Inv s → Inv ((s.takeOffer kind target).1)
  withdrawOffer : ∀ s : State, s.inReset = false → Inv s → Inv (s.withdrawOffer.1)
  raiseStop : ∀ s : State, s.inReset = false → Inv s → Inv (s.raise .localRequest)
  clearStop : ∀ s : State, s.inReset = false → Inv s → Inv (s.takeClearStop.1)
  setManualHold : ∀ (s : State) (hold : Bool), s.inReset = false → Inv s → Inv (State.setManualHold hold s)
  report : ∀ (s : State) (p : Position) (flags : Byte), s.inReset = false → Inv s → Inv ((s.answerReport p flags).1)
  answerStatus : ∀ s : State, s.inReset = false → Inv s → Inv (s.answerStatus.1)
  answerNotice : ∀ s : State, s.inReset = false → Inv s → Inv (s.answerNotice.1)

variable {Inv : State → Prop}

/-- An event keeps what its operation keeps. -/
theorem Kept.event {event : State → State} (h : ∀ s : State, s.inReset = false → Inv s → Inv (event s)) {s : State} (hs : Inv s) :
    ∃ t, outOfReset event s = .next t ∧ Inv t := by
  refine ⟨_, rfl, ?_⟩
  cases hr : s.inReset with
  | true => simpa using hs
  | false => simpa using h s hr hs

/-- A transaction keeps what its taking keeps. -/
theorem Kept.transact (k : Kept Inv) {taken : State → State} (h : ∀ s : State, s.inReset = false → Inv s → Inv (taken s)) {s : State}
    (hs : Inv s) : Inv (s.transact taken) := by
  cases ht : s.takesTransaction with
  | false => rw [State.transact_untaken _ ht]; exact k.port _ _ hs
  | true => rw [State.transact_taken _ ht]; exact h _ ((s.takesTransaction_iff.mp ht).1) (k.port _ _ hs)

/-- A request keeps what its owner keeps. -/
theorem Kept.request (k : Kept Inv) {owner : Owner} (h : ∀ s : State, s.inReset = false → Inv s → Inv (owner s).1) (kind : Byte)
    {s : State} (hs : Inv s) : Inv (s.takeRequest kind owner) :=
  k.transact (fun s hr hi => k.port _ _ (h s hr hi)) hs

/-- A step of the port alone keeps it. -/
theorem Kept.startTransaction (k : Kept Inv) {s : State} (hs : Inv s) : Inv s.startTransaction := by
  unfold State.startTransaction; split <;> exact k.port _ _ hs

theorem Kept.takeNop (k : Kept Inv) {s : State} (hs : Inv s) : Inv s.takeNop := by
  unfold State.takeNop; split
  · exact hs
  · exact k.port _ _ hs
  · exact hs

theorem Kept.completeProcessing (k : Kept Inv) {s : State} (hs : Inv s) : Inv s.completeProcessing := by
  unfold State.completeProcessing; split
  · exact hs
  · exact hs
  · split
    · exact hs
    · exact k.port _ _ hs

theorem Kept.endRestart (k : Kept Inv) {s : State} (hs : Inv s) : Inv s.endRestart := by
  unfold State.endRestart; split
  · exact k.port _ _ hs
  · exact hs

/-- What every operation keeps, every command keeps. -/
theorem Kept.exec (k : Kept Inv) (c : Instr) {s : State} (hs : Inv s) : ∃ t, exec c s = .next t ∧ Inv t := by
  have read : ∀ {f : State → Result × List Byte} (s : State), s.inReset = false → Inv s → Inv (answerRead f s).1 := fun _ _ h => h
  cases c with
  | powerOn => exact ⟨_, rfl, k.reset _ _ hs⟩
  | resetN => exact ⟨_, rfl, k.reset _ _ hs⟩
  | resetComplete straps =>
    refine ⟨_, rfl, ?_⟩
    cases hr : s.inReset with
    | true => simpa using k.complete _ _ hr hs
    | false => simpa using hs
  | stopInputRecognised n high => exact Kept.event (fun s => k.recogniseInput s n high) hs
  | transactionStart => exact ⟨_, rfl, k.startTransaction hs⟩
  | shortTransaction _ => exact ⟨_, rfl, k.port _ _ hs⟩
  | badFormat kind => exact ⟨_, rfl, k.request read kind hs⟩
  | unknownRequest kind => exact ⟨_, rfl, k.request read kind hs⟩
  | transactionDiscarded => exact ⟨_, rfl, k.port _ _ hs⟩
  | nop => exact ⟨_, rfl, k.transact (fun _ _ => k.takeNop) hs⟩
  | configure record => exact ⟨_, rfl, k.request (fun s => k.configure s record) _ hs⟩
  | join => exact ⟨_, rfl, k.request k.join _ hs⟩
  | leave => exact ⟨_, rfl, k.request k.leave _ hs⟩
  | offerStart target => exact ⟨_, rfl, k.request (fun s => k.takeOffer s .start target) _ hs⟩
  | offerRamp target => exact ⟨_, rfl, k.request (fun s => k.takeOffer s .rampTo target) _ hs⟩
  | withdrawOffer => exact ⟨_, rfl, k.request k.withdrawOffer _ hs⟩
  | raiseStop => exact ⟨_, rfl, k.request k.raiseStop _ hs⟩
  | clearStop => exact ⟨_, rfl, k.request k.clearStop _ hs⟩
  | setHold => exact ⟨_, rfl, k.request (fun s => k.setManualHold s true) _ hs⟩
  | releaseHold => exact ⟨_, rfl, k.request (fun s => k.setManualHold s false) _ hs⟩
  | report p flags => exact ⟨_, rfl, k.request (fun s => k.report s p flags) _ hs⟩
  | readSetpoint => exact ⟨_, rfl, k.request read _ hs⟩
  | readStatus => exact ⟨_, rfl, k.request k.answerStatus _ hs⟩
  | readRoster number => exact ⟨_, rfl, k.request read _ hs⟩
  | readProposal origin => exact ⟨_, rfl, k.request read _ hs⟩
  | readNotice => exact ⟨_, rfl, k.request k.answerNotice _ hs⟩
  | readConfig => exact ⟨_, rfl, k.request read _ hs⟩
  | restart => exact ⟨_, rfl, k.transact (fun s _ h => k.port _ _ (k.reset s .request h)) hs⟩
  | transmitOffset => exact Kept.event k.beginTransmission hs
  | collision => exact Kept.event k.collide hs
  | busFault => exact Kept.event k.isolateOnCollisions hs
  | transmitEnd => exact Kept.event k.endTransmission hs
  | receivedWhole order => exact Kept.event (fun s => k.receiveWhole s order) hs
  | gap => exact Kept.event k.abandonOnGap hs
  | frameAbandoned why => exact Kept.event (fun s => k.abandon s why) hs
  | slotClose slot => exact Kept.event (fun s => k.closeSlot s slot) hs
  | missedLimit station => exact Kept.event (fun s => k.missedLimitEvent s station) hs
  | leavingComplete => exact Kept.event k.finishLeaving hs
  | withdrawnEntryRemoved => exact Kept.event k.removeWithdrawn hs
  | cycleBoundary exclusionFirst => exact Kept.event (fun s => k.takeBoundary s exclusionFirst) hs
  | lagHold => exact Kept.event k.takeLag hs
  | localSilent => exact Kept.event k.takeSilent hs
  | expired => exact Kept.event k.expireOffer hs
  | gracePeriod => exact Kept.event k.endGrace hs
  | excluded => exact Kept.event k.exclude hs
  | quietCountExpiry => exact Kept.event k.expireQuiet hs
  | ownSlotStart => exact Kept.event k.takeSlotStart hs
  | listenWindowExpiry => exact Kept.event k.expireWindow hs
  | responseReady =>
    refine ⟨_, rfl, ?_⟩
    split
    · exact k.endRestart hs
    · exact k.completeProcessing hs
  | characterReceived data mark => exact Kept.event (fun s => k.takeCharacter s data mark) hs

/-- What every operation keeps, and the passing of time and the queue too, every step keeps. -/
theorem Kept.step (k : Kept Inv) (queue : ∀ s q, Inv s → Inv { s with pending := q }) (tick : ∀ s : State, Inv s → Inv s.passMicrosecond)
    {s t : State} (hs : Inv s) (h : step s = .next t) : Inv t := by
  unfold Machine.step at h
  split at h
  · cases h
    unfold State.idleStep
    split
    · exact queue _ _ hs
    · exact tick _ hs
  · obtain ⟨u, hu, hi⟩ := k.exec _ (queue _ _ hs)
    rw [hu] at h
    cases h
    exact hi

end Sys2Proof.Machine
end

