-- ==== Sys2Proof/Tests/Slice0.lean ====
section
/-! SUPPORT. Tests of the model on fixed values, with the source of each expected result, and for each statement with hypotheses a witness
that concrete states and operands meet them. -/

-- Each theorem evaluates on the thread of its own command: a run of many evaluations at once needs more thread stacks than a small host has.
set_option Elab.async false

namespace Sys2Proof.Tests
open Sys2Proof Sys2Proof.Machine

/-! ## Small states -/

/-- The state that a command leaves, where it completes. -/
def after (c : Instr) (s : State) : State :=
  match exec c s with
  | .next t => t
  | .fault _ => s
  | .refused _ => s

/-- The line part of Table 13-1, with the section of 8.9.1 and STI0 in mode LEVEL_LOW (13.3). -/
def record : ConfigRecord :=
  { rateCode := 1, slotLength := 1000, smax := 3000, rampStep := 250, stopStep := 400, missedLimit := 4, offerDeadline := 8,
    draw := 17000, kp := 128, ki := 16, imax := 500, trimMax := 800, kf := 4096, lagLimit := 600, lagRelease := 200, lagCount := 3,
    ssMax := 2000, reportTimeout := 3, sti0 := 1, sti1 := 0, sti2 := 3, sti3 := 4, attentionMask := 7 }

/-- The digest of the line part. -/
def digest : BitVec 16 := crc (linePartBytes record)

/-- Station 2, its power-on reset complete: UNCONFIGURED. -/
def fresh : State := after (.resetComplete 1) State.reset

/-- Station 2, configured: IDLE. -/
def idle : State :=
  { fresh with
    store := { fresh.store with accepted := some { record := record, digest := digest } }
    life := { fresh.life with state := .idle } }

/-- The station state alone changed. -/
def inState (s : State) (state : StationState) : State := { s with life := { s.life with state := state } }

def listening : State :=
  { idle with life := { idle.life with state := .listening, listenTimer := some 32000 } }

/-- Timing in which slot 2 starts at 60000. -/
def timing : Timing := adoptedTiming 1 1 60000

/-- Station 2 in a transmitting state in cycle 400. -/
def online (state : StationState) : State :=
  { idle with
    life := { idle.life with state := state }
    slots := { timing := some timing, cycle := 400, now := 60000, atBoundary := false } }

def joining : State := online .joining
def leaving : State := online .leaving

/-- A roster in which stations 5 and 9 are members. -/
def members : Roster := adoptedRoster 1 0x0112

/-- A claim view record without a claim. -/
def clear : ClaimRecord := { stop := none, hold := false, pendingHold := none }

/-- Station 2, a MEMBER of {2, 5, 9} on a STOPPED line. -/
def member : State :=
  let s := online .member
  let view := (s.claims.view.set 4 (some clear)).set 8 (some clear)
  { s with roster := members, claims := { s.claims with view := view } }

/-- The same state with another record, as published. -/
def withRecord (s : State) (r : LineRecord) : State :=
  { s with
    reference := { s.reference with record := r, lastPublished := r.ramp }
    claims := { s.claims with runPermit := r.ramp.running } }

/-- The same station on a line that runs STEADY at 1200. -/
def running : State := withRecord member { ramp := .steady, s := 1200, t := 1200, p := 50000, epoch := 7, stoppedSince := 12 }

def isolated : State := { idle with life := { idle.life with state := .isolated, isolation := some .collisions } }

/-- A request in processing. -/
def busy (s : State) : State :=
  { s with port := { s.port with buffer := .pending { kind := 0x31, answer := some (.ok, []), since := 0 } } }

/-- A response in the buffer. -/
def ready (s : State) : State :=
  { s with port := { s.port with buffer := .ready { kindEcho := 0x10, result := .ok, body := [13] } } }

/-- A frame of station 5 for station 2's line, as a member sends it on a STOPPED line. -/
def frame : Frame :=
  { station := 4, cycle := 400, state := .member, digest := digest,
    reference := { ramp := .stopped, t := 0, s := 0, pLow := 0, epoch := 0, stoppedSince := 0 },
    members := 0x0112, stopCause := none, stopEffective := 0, hold := false, holdEffective := 400, restartCause := none,
    joiningSince := 0, offer := none, decision := none, responses := [] }

/-- A JOINING frame of station 5, as it sends it from cycle 399 on. -/
def joiner : Frame := { frame with state := .joining, members := 0, restartCause := some .power, joiningSince := 399 }

/-- A receipt of a frame, its last character ended at 63418. -/
def receipt (f : Frame) : Receipt := { bytes := frameBytes f, endTime := some 63418 }

/-- The state with that frame received whole. -/
def heard (s : State) (f : Frame) : State := { s with bus := { s.bus with receipt := some (receipt f) } }

/-- An order of the parts. -/
def order : PartOrder := { referenceFirst := false, agreementPlace := 3 }

/-- A ballot of the members, acknowledged by station 2 alone. -/
def ballot : Ballot := { firstOffered := 392, voters := 0x0112, acks := 0x0002, refusal := none }

/-- The state with this own entry: serial 13, RAMP_TO 1800 (2.9). -/
def withOwn (s : State) (phase : OwnPhase) : State :=
  { s with agreement := { s.agreement with own := some { serial := 13, kind := .rampTo, target := 1800, phase := phase }, serial := 13 } }

/-- Station 5's OFFERED entry. -/
def other : OtherEntry :=
  { origin := 4, serial := 1, kind := .rampTo, target := 2500, firstOffered := 390, voters := 0x0112, verdict := none, effective := none }

/-- The state with these entries of other origins. -/
def withOthers (s : State) (others : List OtherEntry) : State := { s with agreement := { s.agreement with others := others } }

/-- The claim of station 2 with this cause. -/
def claim (cause : StopCause) : OwnStop := { cause := cause, effective := none, inForce := false, reported := [] }

/-- The state with the own stop claim set. -/
def withStop (s : State) (cause : StopCause) : State := { s with claims := { s.claims with stop := some (claim cause) } }

/-- The state with station 5's claim view record. -/
def withView (s : State) (r : ClaimRecord) : State := { s with claims := { s.claims with view := s.claims.view.set 4 (some r) } }

/-- The state with station 5's roster entry. -/
def withEntry (s : State) (e : RosterEntry) : State := { s with roster := { s.roster with entries := s.roster.entries.set 4 e } }

/-- Station 5's entry as a member's. -/
def memberEntry : RosterEntry := { RosterEntry.reset with state := .member }

/-- A notice queue of this many INFO notices. -/
def withNotices (s : State) (count : Nat) : State :=
  { s with notices := { s.notices with queue := List.replicate count ⟨.restarted, 0, 2, 1, 0⟩ } }

/-- Sending station 2's own frame. -/
def sending (s : State) : State :=
  { s with
    assembled := some { frame := frame, startedAt := 60000 }
    bus := { s.bus with transmit := .sending (frameCharacters frame), bde := true, btxIdle := false } }

/-! ## Formats -/

/-- R127: the check value of this CRC (polynomial 1021, initial FFFF) over the bytes of "123456789". -/
theorem test_crc_check_value : crc [0x31, 0x32, 0x33, 0x34, 0x35, 0x36, 0x37, 0x38, 0x39] = 0x29B1 := by decide +kernel

/-- R127: the empty run leaves the register at all ones; one zero byte shifts eight times. -/
theorem test_crc_zero_byte : crc [] = 0xFFFF ∧ crc [0x00] = 0xE1F0 := by decide +kernel

/-- Table 9-8: OFFER_RAMP of 1800, kind 11H, length 2, the target's bytes 07H 08H; the check makes the sum 0. -/
theorem test_offer_ramp_bytes : encodeRequest (.offerRamp 1800) = some [0x11, 0x02, 0x07, 0x08, 0xDE] := by decide +kernel

/-- Section 6.7: the frame with one response has 33 bytes, the one with a decision 34, the one with neither 30. -/
theorem test_frame_sizes :
    (frameBytes { frame with responses := [⟨8, 13, .ack⟩] }).length = 33 ∧
    (frameBytes { frame with decision := some ⟨13, .commit, 403⟩ }).length = 34 ∧ (frameBytes frame).length = 30 := by decide +kernel

/-- Table 12-1: the first bytes of the frame are the number, the cycle count and the state code, high byte first. -/
theorem test_frame_header : (frameBytes frame).take 4 = [5, 0x01, 0x90, 4] := by decide +kernel

/-- Table 12-6: the line part of Table 13-1 as its 11 bytes. -/
theorem test_line_part_bytes :
    linePartBytes record = [0x01, 0x03, 0xE8, 0x0B, 0xB8, 0x00, 0xFA, 0x01, 0x90, 0x04, 0x08] := by decide +kernel

/-- Table 7-2: a header character of 05H: start bit, the data least significant bit first, mark 1, stop bit. -/
theorem test_character_bits : characterBits { data := 5, mark := true } =
    [false, true, false, true, false, false, false, false, false, true, true] := by decide +kernel

/-! ## Transactions, written out from Tables 12-3 and 12-4 -/

theorem test_decode_nop : transactionCommand [0x00, 0x00, 0x00] = .nop := by decide +kernel
theorem test_decode_join : transactionCommand [0x02, 0x00, 0xFE] = .join := by decide +kernel
theorem test_decode_offer : transactionCommand [0x10, 0x02, 0x07, 0xD0, 0x17] = .offerStart 2000 := by decide +kernel
theorem test_decode_claims : transactionCommand [0x20, 0x00, 0xE0] = .raiseStop ∧
    transactionCommand [0x23, 0x00, 0xDD] = .releaseHold := by decide +kernel
theorem test_decode_report :
    transactionCommand [0x30, 0x05, 0x00, 0x0F, 0x42, 0x40, 0x01, 0x39] = .report 1000000 0x01 := by decide +kernel
theorem test_decode_reads : transactionCommand [0x41, 0x01, 0x05, 0xB9] = .readRoster 5 ∧
    transactionCommand [0x42, 0x01, 0x10, 0xAD] = .readProposal 16 := by decide +kernel
theorem test_decode_restart : transactionCommand [0x7F, 0x00, 0x81] = .restart := by decide +kernel

/-- R150: the bytes after the envelope's end are not read. -/
theorem test_decode_ignores_what_follows : transactionCommand [0x43, 0x00, 0xBD, 0xFF, 0xFF] = .readNotice := by decide +kernel

/-- R152: fewer than 3 bytes; a sum that is not 0; a length above 48; a length that does not suit the kind; an unknown kind. -/
theorem test_decode_refuses :
    transactionCommand [0x02, 0x00] = .shortTransaction 2 ∧ transactionCommand [0x02, 0x00, 0xFF] = .badFormat 0x02 ∧
    transactionCommand [0x02, 0x31, 0xCD] = .badFormat 0x02 ∧ transactionCommand [0x02, 0x01, 0x00, 0xFD] = .badFormat 0x02 ∧
    transactionCommand [0x04, 0x00, 0xFC] = .unknownRequest 0x04 := by decide +kernel

/-- No row of the table gives bits. -/
theorem test_no_table_words : decodeTableWord 8 0 = none ∧ State.reset.withFetchWord 8 0 = State.reset := by decide +kernel

/-! ## Well-formed commands -/

theorem smoke_short_transaction : (Instr.shortTransaction 3).wellFormed = false ∧ (Instr.shortTransaction 2).wellFormed = true := by
  decide +kernel

theorem smoke_unknown_request : (Instr.unknownRequest 0x02).wellFormed = false ∧ (Instr.unknownRequest 0x04).wellFormed = true := by
  decide +kernel

/-! ## One step of each command -/

/-- R88: a power-on reset, then its completion with STRAP0 high: station 2, with the one RESTARTED notice, cause POWER = 1. -/
theorem test_reset_complete : fresh.inReset = false ∧ fresh.own = 1 ∧ fresh.notices.queue = [⟨.restarted, 0, 2, 1, 0⟩] ∧
    fresh.notices.attention = true ∧ (after .powerOn running).life.restartCause = .power := by decide +kernel

/-- R88: the pin's reset takes the station off the line and cuts its transmission. -/
theorem test_reset_n : (after .resetN (sending running)).life.state = .unconfigured ∧
    (after .resetN (sending running)).bus.bde = false ∧ (after .resetN running).life.restartCause = .pin ∧
    (after .resetN running).claims.runPermit = false := by decide +kernel

/-- R89, R159: the reset of RESTART begins at once; a transaction in its processing shifts out PENDING; its response is never made READY, and
with the processing over a fall of CS_N in the reset is lost. -/
theorem test_restart : (after .restart running).inReset = true ∧ (after .restart running).life.restartCause = .request ∧
    (after .transactionStart (after .restart running)).port.transaction.map (·.envelope) = some [2, 0x7F, 0, 0, 0x7F] ∧
    (after .responseReady (after .restart running)).port.buffer = .empty ∧
    (after .transactionStart (after .responseReady (after .restart running))).sdo = some false := by decide +kernel

/-- Section 13.3: STI0 in mode LEVEL_LOW recognised low raises STOP_INPUT_0, code 1. -/
theorem test_stop_input : (after (.stopInputRecognised 0 false) running).claims.stop = some (claim (.stopInput 0)) ∧
    (after (.stopInputRecognised 0 true) running).claims.stop = none := by decide +kernel

/-- Table 3-3: an edge mode needs a level before it; the falling edge is latched. -/
theorem test_stop_input_edge :
    (after (.stopInputRecognised 2 false) running).claims.stop = none ∧
    (after (.stopInputRecognised 2 false) (after (.stopInputRecognised 2 true) running)).claims.inputs[2].edgeFlag = true := by
  decide +kernel

/-- Section 9.8: the READY envelope of OFFER_RAMP, OK, serial 13 is 6 bytes, and the buffer EMPTY gives five zeros. -/
theorem test_transaction_start :
    (after .transactionStart (ready idle)).port.transaction = some (Buffer.openTransaction (.ready { kindEcho := 0x10, result := .ok, body := [13] })) ∧
    (Buffer.ready { kindEcho := 0x10, result := .ok, body := [13] }).envelope = [1, 0x10, 0, 1, 13, 0xE1] ∧
    (after .transactionStart idle).port.transaction = some { envelope := [0, 0, 0, 0, 0], discarded := false, shiftedIn := [], shiftedOut := 0 } := by decide +kernel

/-- R150: the bits of JOIN (02H 00H FEH), most significant first, and three of a byte left incomplete; SDO undriven with CS_N high. -/
theorem test_shift :
    let bits := [0x02, 0x00, 0xFE].flatMap bitsOfByte ++ [true, true, false]
    let s := bits.foldl State.sckPeriod (after .transactionStart (ready idle))
    s.riseCommand = .join ∧ s.sdo = some (([1, 0x10, 0, 1, 13, 0xE1].flatMap bitsOfByte).getD 27 true) ∧ idle.sdo = none ∧
    (after .transactionStart (ready idle)).sdo = some false ∧ (idle.sckRise true) = idle := by decide +kernel

/-- Section 9.8: a transaction that began while a request was in processing loses its request, though the buffer is READY when it ends. -/
theorem test_transaction_discarded :
    let s := after .responseReady (after .transactionStart (busy running))
    (after .join s).port.buffer = s.port.buffer ∧ (after .transactionDiscarded s).port.buffer = s.port.buffer := by decide +kernel

/-- R152: fewer than 3 bytes leave the buffer; a malformed envelope and an unknown kind are answered. -/
theorem test_ignored_transactions : (after (.shortTransaction 2) (ready idle)).port = (ready idle).port ∧
    (after (.badFormat 2) idle).port.buffer = .pending ⟨2, some (.badFormat, []), 0⟩ ∧
    (after (.unknownRequest 4) idle).port.buffer = .pending ⟨4, some (.unknownRequest, []), 0⟩ := by decide +kernel

/-- R155. -/
theorem test_nop : (after .nop (ready idle)).port.buffer = .empty ∧ (after .nop idle).port.buffer = .empty := by decide +kernel

/-- Section 11.3: rate code 2, slot length 450, Smax 0 and L2 equal to L1 fail at field 2; with slot length 500 at field 3. -/
theorem test_configure_bad :
    let bad : ConfigRecord := { record with rateCode := 2, slotLength := 450, smax := 0, lagRelease := 600 }
    firstBadField bad = some 2 ∧ firstBadField { bad with slotLength := 500 } = some 3 ∧
    firstBadField { bad with slotLength := 500, smax := 3000 } = some 15 ∧
    (after (.configure bad) fresh).port.buffer = .pending ⟨1, some (.badConfig, [2]), 0⟩ := by decide +kernel

/-- R170: acceptance makes the station IDLE, with STATION_STATE of IDLE from UNCONFIGURED. -/
theorem test_configure_good : (after (.configure record) fresh).life.state = .idle ∧
    (after (.configure record) fresh).notices.queue = [⟨.restarted, 0, 2, 1, 0⟩, ⟨.stationState, 0, 0, 1, 0⟩] ∧
    (after (.configure record) idle).port.buffer = .pending ⟨1, some (.wrongState, []), 0⟩ := by decide +kernel

/-- R136: a report taken in UNCONFIGURED is discarded at the entry into IDLE. -/
theorem test_configure_drops_the_report :
    (after (.configure record) (after .responseReady (after (.report 7 1) fresh))).follower.held = none ∧
    (after (.report 7 1) fresh).follower.held = some (7, true) := by decide +kernel

/-- R92: 32 slots of 1000 us. -/
theorem test_join : (after .join isolated).life.state = .listening ∧ (after .join isolated).life.listenTimer = some 32000 ∧
    (after .join isolated).life.isolation = none ∧ (after .join member).life.state = .member := by decide +kernel

/-- Table 5-5: a MEMBER leaves a STOPPED line and no other. -/
theorem test_leave : (after .leave member).life.state = .leaving ∧ (after .leave running).life.state = .member ∧
    (after .leave joining).life.state = .idle := by decide +kernel

/-- Section 2.9: the serial after 12 is 13; START on a STEADY line is NOT_STOPPED (6.7). -/
theorem test_offers :
    let s := { running with agreement := { running.agreement with serial := 12 } }
    (after (.offerRamp 1800) s).agreement.own = some ⟨13, .rampTo, 1800, .queued⟩ ∧
    (after (.offerStart 1800) s).port.buffer = .pending ⟨0x10, some (.notStopped, []), 60000⟩ := by decide +kernel

/-- Table 2-3: START on a STOPPED line passes up to Smax; while a member's entry carries the own ACK it is a CONFLICT. -/
theorem test_offer_start : (after (.offerStart 3000) member).agreement.own = some ⟨1, .start, 3000, .queued⟩ ∧
    (after (.offerStart 3001) member).port.buffer = .pending ⟨0x10, some (.outOfRange, []), 60000⟩ ∧
    (after (.offerStart 9) (withOthers member [{ other with verdict := some .ack }])).port.buffer =
      .pending ⟨0x10, some (.conflict, []), 60000⟩ := by decide +kernel

/-- Table 2-4. -/
theorem test_withdraw : (after .withdrawOffer (withOwn member .queued)).agreement.own = none ∧
    (after .withdrawOffer (withOwn member (.committed ballot 403 1))).port.buffer =
      .pending ⟨0x12, some (.tooLate, []), 60000⟩ := by decide +kernel

/-- R50, R53: the first raise is the claim, a further cause is reported once. -/
theorem test_raise_stop : (after .raiseStop running).claims.stop = some (claim .localRequest) ∧
    (after .raiseStop (withStop running .driveFault)).claims.stop =
      some { claim .driveFault with reported := [.localRequest] } := by decide +kernel

/-- R52. -/
theorem test_clear_stop : (after .clearStop (withStop member .localRequest)).claims.stop = none ∧
    (after .clearStop (withStop running .localRequest)).claims.stop.isSome = true := by decide +kernel

/-- R58. -/
theorem test_holds : (after .setHold running).combinedHold = true ∧
    (after .releaseHold (after .responseReady (after .setHold running))).combinedHold = false := by decide +kernel

/-- Section 8.9: the report on a running line latches the origin at its position; DRIVE_READY 0 there raises DRIVE_FAULT (R147). -/
theorem test_report : (after (.report 1000000 1) running).follower.origin = some 1000000 ∧
    (after (.report 1000000 1) running).claims.stop = none ∧
    (after (.report 1000000 0) running).claims.stop = some (claim .driveFault) ∧
    (after (.report 7 0) member).follower.origin = none := by decide +kernel

/-- Table 12-7: 16 bytes, the cycle count and the ramp state first. -/
theorem test_read_setpoint :
    let r := { SetpointRecord.idle 0x0102 with ramp := .steady, member := true, setpoint := 0x0345, trim := -2, ef := -3, s := 0x0456 }
    setpointBody r = [1, 2, 2, 1, 3, 0x45, 0, 0, 0xFF, 0xFE, 0xFF, 0xFF, 0xFF, 0xFD, 4, 0x56] := by decide +kernel

/-- Table 12-8: number 2, MEMBER = 4, cycle 400, STEADY = 2, S and T 1200, P 50000, epoch 7, stopped-since 12, the set {2, 5, 9}. -/
theorem test_read_status : running.statusBody =
    [2, 4, 0, 1, 1, 0x90, 2, 4, 0xB0, 4, 0xB0, 0, 0, 0xC3, 0x50, 7, 0, 12, 1, 0x12, 0, 0, 1, 0, 0] := by decide +kernel

/-- Table 12-9 and R86: the own entry of a MEMBER is MEMBER; 0 and 17 are OUT_OF_RANGE. -/
theorem test_read_roster : member.rosterBody 1 = [2, 2, 1, 0, 0, 0, 0, 0, 0, 0, 0, 0, 0, 0, 0, 4] ∧
    (after (.readRoster 17) member).port.buffer = .pending ⟨0x41, some (.outOfRange, []), 60000⟩ := by decide +kernel

/-- R48: no entry of the origin is EMPTY. -/
theorem test_read_proposal : (after (.readProposal 5) member).port.buffer = .pending ⟨0x42, some (.empty, []), 60000⟩ ∧
    (after (.readProposal 0) member).port.buffer = .pending ⟨0x42, some (.outOfRange, []), 60000⟩ := by decide +kernel

/-- Section 10.8: LINE ranks above INFO, so the first read returns notice 2, and the RESTARTED notice stays. -/
theorem test_read_notice :
    let s := after (.configure record) fresh
    (after .readNotice { s with port := LocalPort.reset }).notices.queue = [⟨.restarted, 0, 2, 1, 0⟩] ∧
    (after .readNotice { s with port := LocalPort.reset }).port.buffer =
      .pending ⟨0x43, some (.ok, noticeBody ⟨.stationState, 0, 0, 1, 0⟩), 0⟩ := by decide +kernel

/-- R172. -/
theorem test_read_config : (after .readConfig fresh).port.buffer = .pending ⟨0x44, some (.wrongState, []), 0⟩ ∧
    (after .readConfig idle).port.buffer = .pending ⟨0x44, some (.ok, [2] ++ halfBytes digest ++ recordBytes record), 0⟩ := by
  decide +kernel

/-- R123 to R125. -/
theorem test_transmission : (after .transmitOffset { member with assembled := (sending member).assembled }).bus.bde = true ∧
    (after .transmitEnd (sending member)).bus.bde = false ∧ (after .collision (sending member)).bus.collisions = 1 ∧
    (after .collision (sending member)).assembled = none := by decide +kernel

/-- R102. -/
theorem test_bus_fault :
    let s := { member with bus := { member.bus with collisions := 3 } }
    (after .busFault s).life.state = .isolated ∧ (after .busFault s).life.isolation = some .collisions ∧
    (after .busFault member).life.state = .member := by decide +kernel

/-- Section 7.8: 34 bytes at 1 Mbit/s are 374 bit times; a frame that ended at 60385 began its slot at 60003. -/
theorem test_slot_reference : slotStartOf 1 60385 34 = 60003 ∧ frameMicros 2 33 = 181 ∧ frameMicros 3 33 = 90 := by decide +kernel

/-- R132, R94: a LISTENING station adopts the frame's cycle count and becomes JOINING; the set holds its number. -/
theorem test_received_whole_listening : (after (.receivedWhole order) (heard listening frame)).life.state = .joining ∧
    (after (.receivedWhole order) (heard listening frame)).slots.cycle = 400 ∧
    (after (.receivedWhole order) (heard listening frame)).life.admitting = some 0x0112 := by decide +kernel

/-- Table 13-6: the late stop first, then the snap to the sender's 1600 (R16, R17). -/
theorem test_received_whole_snap :
    let f := { frame with stopCause := some (.stopInput 0), stopEffective := 399,
                          reference := { frame.reference with ramp := .stopping, s := 1600 } }
    let s := withRecord member { ramp := .steady, s := 2000, t := 2000, p := 61000, epoch := 1, stoppedSince := 0 }
    (after (.receivedWhole order) (heard s f)).reference.record =
      { ramp := .stopping, s := 1600, t := 0, p := 61000, epoch := 1, stoppedSince := 0 } := by decide +kernel

/-- R73: a member's JOINING frame with the joining-since recorded and the own count ends a cycle mismatch. -/
theorem test_member_joining_ends_a_mismatch :
    let e := { memberEntry with joiningSince := some 399, cycleMismatch := true }
    (after (.receivedWhole order) (heard (withEntry member e) joiner)).roster.entries[4].cycleMismatch = false := by decide +kernel

/-- R133, R130: a frame of slot 3 that ends its slot's start at 61000 brings a timer in slot 5 back; closes 3 and 4 raised, the clock moves the
current slot on to 4 at 62000 and to 5 at 63000. -/
theorem test_current_slot :
    let t : Timing := { timing with currentSlot := 4, closesRaised := 0x000F }
    let u := Timing.realigned t 1 2 61000
    u.currentSlot = 2 ∧ (u.passed 1000 61999).currentSlot = 2 ∧ (u.passed 1000 62000).currentSlot = 3 ∧
    (u.passed 1000 63000).currentSlot = 4 ∧ (u.passed 1000 99999).currentSlot = 4 := by decide +kernel

/-- R128, R122: mark 1 begins a frame in receipt; mark 0 with none in receipt is discarded. -/
theorem test_character : (after (.characterReceived 5 true) member).bus.receipt = some { bytes := [5], endTime := none } ∧
    (after (.characterReceived 5 false) member).bus.receipt = none := by decide +kernel

/-- R129. -/
theorem test_gap_and_abandon :
    let s := { member with bus := { member.bus with receipt := some { bytes := [5], endTime := none } } }
    (after .gap s).bus.receipt = none ∧ (after (.frameAbandoned .framingError) s).bus.receipt = none ∧
    (after (.frameAbandoned .lengthFailure) s).bus.receipt = s.bus.receipt := by decide +kernel

/-- R76: an empty slot counts one, a heard one zeroes the count. -/
theorem test_slot_close :
    let s := withEntry member { memberEntry with missed := 2 }
    (after (.slotClose 4) s).roster.entries[4].missed = 3 ∧
    (after (.slotClose 4) { s with roster := { s.roster with heard := singleton 4 } }).roster.entries[4].missed = 0 := by
  decide +kernel

/-- R77, R78: M = 4 missed slots remove the member, and a running MEMBER raises MEMBER_LOST. -/
theorem test_missed_limit :
    let s := withEntry running { memberEntry with missed := 4 }
    (after (.missedLimit 4) s).isMember 4 = false ∧ (after (.missedLimit 4) s).claims.stop = some (claim .memberLost) ∧
    (after (.missedLimit 8) s).isMember 8 = true := by decide +kernel

/-- R105. -/
theorem test_leaving_complete :
    (after .leavingComplete { leaving with life := { leaving.life with leavingFrames := 2 } }).life.state = .idle ∧
    (after .leavingComplete leaving).life.state = .leaving := by decide +kernel

/-- R33. -/
theorem test_withdrawn_entry_removed :
    (after .withdrawnEntryRemoved (withOwn member (.withdrawn ballot .refused 2))).agreement.own = none ∧
    (after .withdrawnEntryRemoved (withOwn member (.withdrawn ballot .refused 1))).agreement.own.isSome = true := by decide +kernel

/-- Table 13-6, boundary 44: the position gains 2000, the speed of a STOPPING record falls by D = 400. -/
theorem test_cycle_boundary :
    let s := withRecord member { ramp := .stopping, s := 2000, t := 0, p := 59000, epoch := 1, stoppedSince := 0 }
    (after (.cycleBoundary false) s).reference.record =
      { ramp := .stopping, s := 1600, t := 0, p := 61000, epoch := 1, stoppedSince := 0 } := by decide +kernel

/-- Boundary 403 of 2.9: T becomes 1800 and the epoch goes on; the entry leaves, with OFFER_RESULT APPLIED and CHANGE_APPLIED. -/
theorem test_cycle_boundary_commit :
    let s := withOwn { running with slots := { running.slots with cycle := 402 } } (.committed ballot 403 2)
    (after (.cycleBoundary false) s).reference.record =
      { ramp := .ramping, s := 1200, t := 1800, p := 51200, epoch := 8, stoppedSince := 12 } ∧
    (after (.cycleBoundary false) s).agreement.own = none := by decide +kernel

/-- Table 8-4: the count at N = 3 sets the lag hold. -/
theorem test_lag_hold : (after .lagHold { running with follower := { running.follower with overCount := 3 } }).follower.lagHold = true ∧
    (after .lagHold { running with follower := { running.follower with overCount := 2 } }).follower.lagHold = false := by decide +kernel

/-- Table 8-5, publication 102: S = 600 with rem 4576 gives F = 622, rem 13728, Rs 933. -/
theorem test_feed_forward :
    let g := feedForward 17000 600 { Follower.idle 101 with rem := 4576, rs := 311 }
    (g.f, g.rem, g.rs) = (622, 13728, 933) := by decide +kernel

/-- R148. -/
theorem test_local_silent :
    (after .localSilent { running with port := { running.port with silentDue := true } }).claims.stop = some (claim .localSilent) ∧
    (after .localSilent running).claims.stop = none := by decide +kernel

/-- R32: 392 + 8 = 400. -/
theorem test_expired :
    (after .expired (withOwn running (.offered ballot))).agreement.own =
      some ⟨13, .rampTo, 1800, .withdrawn ballot .expired 0⟩ ∧
    (after .expired (withOwn running (.offered { ballot with firstOffered := 393 }))).agreement.own =
      some ⟨13, .rampTo, 1800, .offered { ballot with firstOffered := 393 }⟩ := by decide +kernel

/-- R43: 390 + 8 + 2 = 400. -/
theorem test_grace_period : (after .gracePeriod (withOthers running [other])).agreement.others = [] ∧
    (after .gracePeriod (withOthers running [{ other with effective := some 402 }])).agreement.others.length = 1 := by
  decide +kernel

/-- R98. -/
theorem test_excluded : (after .excluded { member with life := { member.life with exclusion := 2 } }).life.state = .joining ∧
    (after .excluded member).life.state = .member := by decide +kernel

/-- R96; the notice of the change carries the new cycle's count (R161), and the timing is dropped. -/
theorem test_quiet_count :
    let t := after .quietCountExpiry { joining with life := { joining.life with quiet := 4 } }
    t.life.state = .listening ∧ (t.notices.queue.map fun n => (n.kind, n.cycle)) = [(.restarted, 0), (.stationState, 400)] ∧
    t.slots.cycle = 0 ∧ (after .quietCountExpiry joining).life.state = .joining := by decide +kernel

/-- Section 2.9, own slot 6 of cycle 401: all voters have acknowledged, so the entry commits two cycles on. -/
theorem test_own_slot_start :
    let s := withOwn running (.offered { ballot with acks := 0x0112 })
    (after .ownSlotStart s).assembled.map (·.frame.decision) = some (some ⟨13, .commit, 402⟩) ∧
    (after .ownSlotStart s).agreement.own = some ⟨13, .rampTo, 1800, .committed { ballot with acks := 0x0112 } 402 1⟩ := by
  decide +kernel

/-- Section 13.1.1: station 2 founds the line as MEMBER {2} in cycle 0; its first boundary is (17 - 2) slots on. -/
theorem test_listen_window_expiry : (after .listenWindowExpiry listening).life.state = .member ∧
    (after .listenWindowExpiry listening).memberSet = 0x0002 ∧
    (after .listenWindowExpiry listening).slots.timing.map (·.cycleEnd 1000) = some 15000 ∧
    (after .listenWindowExpiry listening).assembled.isSome = true := by decide +kernel

/-- R153. -/
theorem test_response_ready : (after .responseReady (busy idle)).port.buffer = .ready ⟨0x31, .ok, []⟩ ∧
    (after .responseReady idle).port.buffer = .empty := by decide +kernel

/-! ## Witnesses: for each statement with hypotheses, states and operands that meet them, one for each clause -/

/-- Station 2 in cycle 400 with this timing, at this time. -/
def atTime (t : Timing) (now : Nat) : State := { member with slots := { member.slots with timing := some t, now := now } }

/-- Nothing due and each of the ordered events due, without a close of slot 16 left: LAG_HOLD, LOCAL_SILENT, the own-slot start at 60000 with the
close of slot 1 raised, the close of slot 2 at 61000, and the boundary at 75000 with all closes raised. -/
theorem witness_CommandsCompleteAndTimePasses : (fresh.pending = [] ∧ fresh.due = none) ∧
    ((running.inReset = false ∧ EventDue { running with follower := { running.follower with overCount := 3 } } .lagHold) ∧
      EventDue { running with port := { running.port with silentDue := true } } .localSilent ∧
      ¬ EventDue { running with port := { running.port with silentDue := true } } .lagHold) ∧
    (timing.lateClose = none ∧ (atTime timing 60000).due = some .ownSlotStart ∧
      (atTime (timing.ownStarted 1) 61000).due = some (.slotClose 1) ∧ EventDue (atTime timing 61000) .ownSlotStart ∧
      EventDue (atTime timing 61000) (.slotClose 1)) ∧
    (atTime { timing.ownStarted 1 with closesRaised := 0xFFFF } 75000).due = some (.cycleBoundary false) :=
  ⟨by decide +kernel, ⟨⟨by decide +kernel, .inl ⟨by decide +kernel, by decide +kernel, .inl (by decide +kernel)⟩⟩,
    .inl ⟨by decide +kernel, rfl⟩, fun h => h.elim (fun h => h.2.2.elim (fun g => absurd g.2 (by decide +kernel))
      (fun g => absurd g.1 (by decide +kernel))) (fun h => absurd h.1 (by decide +kernel))⟩,
    ⟨by decide +kernel, by decide +kernel, by decide +kernel,
      .inl ⟨by decide +kernel, by decide +kernel, timing, rfl, by decide +kernel, by decide +kernel⟩,
      .inl ⟨by decide +kernel, timing, rfl, .inr (by decide +kernel)⟩⟩, by decide +kernel⟩

theorem witness_ResetsBringResetValues : running.takesTransaction = true ∧ fresh.takesTransaction = true ∧
    (State.reset.inReset = true ∧ State.reset.life.restartCause = .power) ∧
    ((after .resetN running).inReset = true ∧ (after .resetN running).life.restartCause ≠ .power) := by decide +kernel

/-- A station held by its reset pin. -/
def held : State := after .resetN running

theorem storeOk_held : StoreOk held := ⟨by decide +kernel, fun _ h => (nomatch h), by decide +kernel⟩
theorem timingOk_held : TimingOk held := ⟨by decide +kernel, by decide +kernel⟩

theorem witness_AResetHoldsUntilItCompletes :
    (after .restart running).port.buffer.isPending = true ∧
    ((held.inReset = true ∧ StoreOk held ∧ TimingOk held) ∧ fresh.inReset = false) ∧
    (State.reset.inReset = true ∧ Instr.join ≠ .powerOn ∧ Instr.join ≠ .resetN ∧
     (∀ straps, Instr.join ≠ .resetComplete straps) ∧ Instr.join ≠ .responseReady) :=
  ⟨by decide +kernel, ⟨⟨by decide +kernel, storeOk_held, timingOk_held⟩, by decide +kernel⟩,
   by simp [State.reset]⟩

theorem witness_TransactionStartFixesEnvelope :
    ((after .restart running).inReset = true ∧ (after .restart running).port.buffer = .pending { kind := 0x7F, answer := none, since := 0 }) ∧
    (State.reset.inReset = true ∧ State.reset.port.buffer.isPending = false) ∧ (idle.inReset = false ∧ idle.port.buffer = .empty) ∧
    ((ready idle).inReset = false ∧ (ready idle).port.buffer = .ready { kindEcho := 0x10, result := .ok, body := [13] }) ∧
    ((busy idle).inReset = false ∧ (busy idle).port.buffer = .pending { kind := 0x31, answer := some (.ok, []), since := 0 }) := by
  decide +kernel

/-- A transaction begun, taken and discarded, with a whole byte and seven bits of another; CS_N high; a transaction lost. -/
theorem witness_TransactionsShiftBits :
    (∃ x, (after .transactionStart idle).port.transaction = some x ∧ x.shiftedIn = [] ∧ x.shiftedOut = 0 ∧ x.discarded = false) ∧
    (∃ x, (after .transactionStart (busy idle)).port.transaction = some x ∧ x.shiftedIn = [] ∧ x.shiftedOut = 0 ∧ x.discarded = true) ∧
    ((after .transactionStart idle).port.lost = false ∧ (List.replicate 7 true).length < 8) ∧
    (idle.port.transaction = none ∧ idle.port.lost = false) ∧ (after .transactionStart State.reset).port.lost = true :=
  ⟨⟨_, rfl, rfl, rfl, rfl⟩, ⟨_, rfl, rfl, rfl, rfl⟩, by decide +kernel, by decide +kernel, by decide +kernel⟩

theorem witness_TransactionsThatReachNoOwner : ((busy idle).takesTransaction = false ∧ (requestParts .join).isSome = true) ∧
    idle.takesTransaction = true := by decide +kernel

theorem witness_NopEmptiesTheBuffer : idle.takesTransaction = true ∧ (ready idle).takesTransaction = true := by decide +kernel

theorem witness_ResponseReadyStoresTheAnswer : ((busy idle).inReset = false ∧
      (busy idle).port.buffer = .pending { kind := 0x31, answer := some (.ok, []), since := 0 }) ∧
    (idle.inReset = false ∧ ∀ p : Processing, idle.port.buffer = .pending p → p.answer = none) :=
  ⟨by decide +kernel, by decide +kernel, fun _ h => (nomatch h)⟩

theorem witness_RequestEncodingReadsBack : encodeRequest .join = some [0x02, 0x00, 0xFE] := by decide +kernel

theorem record_in_range : ∀ i, 1 ≤ i → i ≤ 23 → FieldInRange record i := by
  intro i h1 h2
  have h : i = 1 ∨ i = 2 ∨ i = 3 ∨ i = 4 ∨ i = 5 ∨ i = 6 ∨ i = 7 ∨ i = 8 ∨ i = 9 ∨ i = 10 ∨ i = 11 ∨ i = 12 ∨
      i = 13 ∨ i = 14 ∨ i = 15 ∨ i = 16 ∨ i = 17 ∨ i = 18 ∨ i = 19 ∨ i = 20 ∨ i = 21 ∨ i = 22 ∨ i = 23 := by omega
  rcases h with rfl | rfl | rfl | rfl | rfl | rfl | rfl | rfl | rfl | rfl | rfl | rfl | rfl | rfl | rfl | rfl | rfl | rfl | rfl | rfl | rfl | rfl | rfl <;>
    simp [FieldInRange, record]

/-- UNCONFIGURED with no stop input active, with input 1 at its active level, and with a set claim beside; a bad field; and IDLE. -/
theorem witness_TheConfigurationIsTakenAndRead :
    ((fresh.takesTransaction = true ∧ fresh.life.state = .unconfigured ∧ (∀ i, 1 ≤ i → i ≤ 23 → FieldInRange record i) ∧
       fresh.claims.stop = none) ∧
     (let s := after (.stopInputRecognised 0 false) fresh
      levelActive (idle.inputMode 0) s.claims.inputs[(0 : Fin 4)].level = true ∧ s.claims.stop = none ∧
        (after .raiseStop s).claims.stop ≠ none) ∧
     (firstBadField { record with rateCode := 4 } = some 1 ∧ firstBadField { record with attentionMask := 8 } = some 23) ∧
     (idle.takesTransaction = true ∧ idle.life.state ≠ .unconfigured)) ∧
    ((fresh.takesTransaction = true ∧ fresh.life.state = .unconfigured) ∧
     (idle.takesTransaction = true ∧ idle.life.state ≠ .unconfigured ∧
       idle.store.accepted = some { record := record, digest := digest })) :=
  ⟨⟨⟨by decide +kernel, by decide +kernel, record_in_range, by decide +kernel⟩, by decide +kernel, by decide +kernel⟩,
   by decide +kernel⟩

theorem witness_PostKeepsTheQueueBounded : (withNotices idle 23).notices.queue.length < 24 ∧
    (withNotices idle 24).notices.queue.length = 24 := by decide +kernel

theorem witness_ReadNoticeReturnsTheOldestOfTheHighestClass : ((withNotices idle 0).takesTransaction = true ∧ (withNotices idle 0).notices.queue = []) ∧
    ((withNotices idle 1).takesTransaction = true ∧ (withNotices idle 1).notices.queue ≠ []) := by decide +kernel

theorem witness_StatusRosterAndProposalsAreRead : running.takesTransaction = true ∧
    ((0 : Byte).toNat = 0 ∧ 16 < (17 : Byte).toNat ∧ (1 : Byte).toNat = stationNumber 0 ∧ (16 : Byte).toNat = stationNumber 15) ∧
    running.shownEntry 4 = none ∧ ((withOthers running [other]).shownEntry 4).isSome = true ∧
    ((withOwn running .queued).shownEntry 1).isSome = true := by decide +kernel

/-- The layouts hold of every body; the bytes of F are stated below 65536. -/
theorem witness_BodiesFollowTheirLayouts : (SetpointRecord.idle 0).f < 65536 ∧ (noticeBody ⟨.stationState, 400, 0, 1, 0⟩).length = 7 := by
  decide +kernel

theorem witness_JoinAndLeaveActByState :
    ((idle.takesTransaction = true ∧ idle.life.state = .idle) ∧
     (isolated.takesTransaction = true ∧ isolated.life.state = .isolated) ∧
     (member.takesTransaction = true ∧ member.life.state ≠ .idle ∧ member.life.state ≠ .isolated)) ∧
    ((listening.takesTransaction = true ∧ listening.life.state = .listening) ∧
     (joining.takesTransaction = true ∧ joining.life.state = .joining) ∧
     (member.takesTransaction = true ∧ member.life.state = .member ∧ member.reference.record.ramp = .stopped) ∧
     (running.takesTransaction = true ∧ running.life.state = .member ∧ running.reference.record.ramp ≠ .stopped) ∧
     (leaving.takesTransaction = true ∧ leaving.life.state = .leaving)) :=
  ⟨by decide +kernel,
   by decide +kernel⟩

/-- The states in which a count stands at its limit. -/
def collided : State := { member with bus := { member.bus with collisions := 3 } }
def announced : State := { leaving with life := { leaving.life with leavingFrames := 2 } }
def quiet : State := { joining with life := { joining.life with quiet := 4 } }
def shunned : State := { member with life := { member.life with exclusion := 2 } }

theorem witness_CountsAtTheirLimitsChangeTheState :
    (collided.inReset = false ∧ collided.life.state.transmits = true ∧ collided.bus.collisions = 3) ∧
    (member.bus.collisions ≠ 3 ∧ idle.life.state.transmits = false) ∧
    (announced.inReset = false ∧ announced.life.state = .leaving ∧ announced.life.leavingFrames = 2) ∧
    leaving.life.leavingFrames ≠ 2 ∧
    (quiet.inReset = false ∧ quiet.life.state = .joining ∧ quiet.life.quiet = quiet.cfg.missedLimit.toNat) ∧
    joining.life.quiet ≠ joining.cfg.missedLimit.toNat ∧
    (shunned.inReset = false ∧ shunned.life.state = .member ∧ shunned.life.exclusion = 2) ∧ member.life.exclusion ≠ 2 := by
  decide +kernel

theorem witness_ListenWindowExpiryFoundsALine : (listening.inReset = false ∧ listening.life.state = .listening ∧
      listening.agreement.own = none ∧ listening.agreement.others = []) ∧ idle.life.state ≠ .listening ∧
    (listening.combinedHold = listening.claims.announced ∧ (after .setHold listening).combinedHold ≠ (after .setHold listening).claims.announced ∧
      (after .setHold listening).claims.manualHold = true ∧ (after .setHold listening).claims.announced = false ∧
      (after .setHold listening).claims.announcedEffective = none) := by decide +kernel

/-- Each answer of the checks is given: START and RAMP_TO, with the boundary targets 0, 1, 3000 and 3001. -/
theorem witness_OfferChecksFollowTheTable :
    running.offerCheck .start 9 none 1 = some .notStopped ∧
    (withStop member .localRequest).offerCheck .start 9 none 1 = some .stopClaimed ∧
    member.offerCheck .start 9 (some 0x0012) 1 = some .membership ∧ member.offerCheck .start 0 none 1 = some .outOfRange ∧
    member.offerCheck .start 3001 none 1 = some .outOfRange ∧ member.offerCheck .start 1 (some 0x0112) 1 = none ∧
    member.offerCheck .start 3000 none 1 = none ∧
    (withOthers member [{ other with verdict := some .ack }]).offerCheck .start 9 none 1 = some .conflict ∧
    (withRecord member { LineRecord.reset with ramp := .stopping, s := 9 }).offerCheck .rampTo 9 none 1 = some .lineStopping ∧
    member.offerCheck .rampTo 9 none 1 = some .notRunning ∧ running.offerCheck .rampTo 0 none 1 = some .outOfRange ∧
    (withOwn running (.offered ballot)).offerCheck .rampTo 9 none 4 = some .conflict ∧ running.offerCheck .rampTo 3000 none 1 = none := by
  decide +kernel

theorem witness_OfferRequestsActOnTheOwnEntry :
    ((idle.takesTransaction = true ∧ idle.life.state ≠ .member) ∧
     ((withOwn member .queued).takesTransaction = true ∧ (withOwn member .queued).life.state = .member ∧
       (withOwn member .queued).agreement.own ≠ none) ∧
     (member.takesTransaction = true ∧ member.life.state = .member ∧ member.agreement.own = none ∧
       member.offerCheck .rampTo 9 none member.own = some .notRunning ∧ member.offerCheck .start 9 none member.own = none)) ∧
    ((member.takesTransaction = true ∧ member.agreement.own = none) ∧
     (withOwn member .queued).takesTransaction = true ∧
     (∃ e, (withOwn member .queued).agreement.own = some e ∧ e.phase = .queued) ∧
     (∃ e, (withOwn member (.offered ballot)).agreement.own = some e ∧ e.phase = .offered ballot) ∧
     (∃ e, (withOwn member (.committed ballot 402 0)).agreement.own = some e ∧ e.phase = .committed ballot 402 0) ∧
     ∃ e, (withOwn member (.withdrawn ballot .refused 1)).agreement.own = some e ∧ e.phase = .withdrawn ballot .refused 1) :=
  ⟨by decide +kernel,
   ⟨by decide +kernel, by decide +kernel, ⟨_, rfl, rfl⟩, ⟨_, rfl, rfl⟩, ⟨_, rfl, rfl⟩, ⟨_, rfl, rfl⟩⟩⟩

/-- An offer, decisions and responses of station 5. -/
def offerPart : OfferPart := { serial := 1, kind := .rampTo, target := 2500, firstOffered := 400, voters := 0x0112 }
def commitPart : DecisionPart := { serial := 1, outcome := .commit, effective := 402 }
def withdrawPart : DecisionPart := { serial := 1, outcome := .withdraw .refused, effective := 0 }
def response : ResponsePart := { origin := 1, serial := 13, verdict := .ack }

theorem witness_TheAgreementPartIsTaken :
    (member.life.state = .member ∧ leaving.life.state = .leaving) ∧
    (member.life.state ≠ .leaving ∧ frame.state = .member ∧ frame.offer = none ∧ frame.decision = none) ∧
    (({ frame with offer := some offerPart }).offer = some offerPart ∧ ({ frame with offer := some offerPart }).decision = none) ∧
    (∃ e, (withOthers member [other]).agreement.others.find? (fun e => e.origin == (4 : Station)) = some e ∧
      e.serial = offerPart.serial ∧ e.serial = commitPart.serial ∧ e.serial = withdrawPart.serial) ∧
    (¬ ∃ e, member.agreement.others.find? (fun e => e.origin == (4 : Station)) = some e ∧ e.serial = 1) ∧
    (commitPart.outcome = .commit ∧ withdrawPart.outcome ≠ .commit) ∧
    (∀ e b, member.agreement.own = some e → e.phase ≠ .offered b) ∧
    (∃ e, (withOwn member (.offered ballot)).agreement.own = some e ∧ e.phase = .offered ballot ∧ response.origin = member.own ∧
      response.serial = e.serial ∧ contains ballot.voters 4 = true ∧ contains ballot.acks 4 = false ∧
      ∀ why, ballot.refusal ≠ some (4, why)) ∧
    contains ballot.acks 1 = true ∧ contains ballot.voters 2 = false ∧ [response] = [] ++ response :: [] :=
  ⟨by decide +kernel, by decide +kernel, by decide +kernel, ⟨other, by decide +kernel⟩, fun ⟨_, h, _⟩ => (nomatch h), by decide +kernel,
    fun _ _ h => (nomatch h), ⟨_, rfl, rfl, by decide +kernel, rfl, by decide +kernel, by decide +kernel, fun _ h => (nomatch h)⟩,
    by decide +kernel, by decide +kernel, rfl⟩

/-- With STI0 in mode LEVEL_LOW, high is inactive and low is active; no lower input is. -/
theorem witness_ClaimRequestsAct :
    (running.claims.stop = none ∧ running.takesTransaction = true ∧
     (withStop running .driveFault).claims.stop = some (claim .driveFault) ∧
     StopCause.localRequest ≠ (claim .driveFault).cause ∧ StopCause.localRequest ∉ (claim .driveFault).reported) ∧
    ((running.takesTransaction = true ∧ running.life.state = .member ∧ running.reference.record.ramp ≠ .stopped) ∧
     (member.takesTransaction = true ∧ ¬ (member.life.state = .member ∧ member.reference.record.ramp ≠ .stopped)) ∧
     (∀ n : Fin 4, ¬ ((member.inputMode n = .levelLow ∧ member.claims.inputs[n].level = some false) ∨
       (member.inputMode n = .levelHigh ∧ member.claims.inputs[n].level = some true))) ∧
     ((after (.stopInputRecognised 0 false) member).inputMode 0 = .levelLow ∧
       (after (.stopInputRecognised 0 false) member).claims.inputs[0].level = some false)) :=
  ⟨by decide +kernel,
   by decide +kernel⟩

/-- Recognitions that raise and that do not, in level and edge modes; a level already recognised. -/
theorem witness_StopInputsActByMode : running.inReset = false ∧ running.claims.inputs[0].level ≠ some false ∧
    InputRaises (running.inputMode 0) none false false ∧ ¬ InputRaises (running.inputMode 0) none false true ∧
    ¬ InputRaises (running.inputMode 2) none false false ∧ InputRaises (running.inputMode 2) (some true) false false ∧
    ¬ InputRaises (running.inputMode 2) (some true) true false ∧ InputRaises (running.inputMode 3) (some false) false true ∧
    (after (.stopInputRecognised 0 false) running).claims.inputs[0].level = some false := by
  refine ⟨by decide +kernel, by decide +kernel, ?_, ?_, ?_, ?_, ?_, ?_, by decide +kernel⟩ <;> simp only [InputRaises] <;>
    decide +kernel

/-- Claims first heard at the two cycles ahead and at the current one, and one already held; a hold change in each of its cases. -/
theorem witness_ClaimPartsFollowTheirTables :
    (online .member).claims.view[frame.station] = none ∧ member.claims.view[frame.station] = some clear ∧ frame.stopCause = none ∧
    (ahead 402 member.slots.cycle = true ∧ ahead 401 member.slots.cycle = true ∧ ahead 400 member.slots.cycle = false ∧
      ahead 403 member.slots.cycle = false) ∧
    (∃ h, ({ clear with stop := some ⟨.driveFault, 402, false⟩ }).stop = some h ∧ h.cause = .driveFault ∧ h.effective = 402) ∧
    (∀ h, clear.stop = some h → h.cause ≠ .driveFault ∨ h.effective ≠ 402) ∧
    (clear.pendingHold = none ∧ frame.hold = clear.hold) ∧
    ¬ (clear.pendingHold = some (true, 402) ∨ (clear.pendingHold = none ∧ true = clear.hold)) :=
  ⟨by decide +kernel, by decide +kernel, rfl, by decide +kernel, ⟨_, rfl, rfl, rfl⟩, fun _ h => (nomatch h), by decide +kernel, by decide +kernel⟩

/-- A claim of each kind that falls due at the new cycle, and a hold that does. -/
theorem witness_ClaimsCountFromTheirEffectiveCycle :
    (claimsBoundary 402 { ClaimUnit.reset with stop := some { claim .driveFault with effective := some 402 } }).stopEffective = true ∧
    (claimsBoundary 402 (withView member { clear with stop := some ⟨.driveFault, 402, false⟩ }).claims).stopEffective = true ∧
    (claimsBoundary 401 (withView member { clear with stop := some ⟨.driveFault, 402, false⟩ }).claims).stopEffective = false ∧
    (claimsBoundary 402 (withView member { clear with pendingHold := some (true, 402) }).claims).holdSet = true ∧
    (claimsBoundary 402 (withView member { clear with hold := true, pendingHold := some (false, 402) }).claims).holdSet = false := by
  decide +kernel

theorem witness_ReportIsHeldAndAnswered : running.takesTransaction = true ∧
    (running.life.state = .member ∧ running.follower.origin = none ∧ running.reference.lastPublished ≠ .stopped) ∧
    (member.takesTransaction = true ∧ member.reference.lastPublished = .stopped) ∧
    ((0 : Byte).getLsbD 0 = false ∧ running.reference.record.ramp ≠ .stopped ∧ (1 : Byte).getLsbD 0 = true) := by decide +kernel

/-- The clauses by ramp state, with and without a loop update; 17000 times 1200 in 1/16384 is 1245. -/
theorem witness_FollowerComputesTheSetpoint :
    let f := { Follower.idle 0 with origin := some 1000000, held := some (1000300, true) }
    running.reference.record.ramp ≠ .stopped ∧ running.reference.record.ramp.free = true ∧ f.origin ≠ none ∧ f.held ≠ none ∧
    f.lagHold = false ∧ ({ f with lagHold := true }).lagHold = true ∧ (Follower.idle 0).origin = none ∧
    member.reference.record.ramp = .stopped ∧ LineRecord.reset.s = 0 ∧ ({ LineRecord.reset with ramp := .ramping }).ramp ≠ .stopped ∧
    (followerPublish record running.reference.record 401 false f).f = 1245 := by decide +kernel

/-- 392 + 8 is the current cycle 400; one more, and the deadline has not come. -/
theorem witness_LimitsAreTaken :
    ((∃ e, (withOwn running (.offered ballot)).agreement.own = some e ∧ e.phase = .offered ballot ∧
       running.slots.cycle = ballot.firstOffered + running.cfg.offerDeadline.setWidth 16) ∧
     (∀ e b, running.agreement.own = some e → e.phase = .offered b →
       running.slots.cycle ≠ b.firstOffered + running.cfg.offerDeadline.setWidth 16) ∧
     (∃ e, (withOwn running (.withdrawn ballot .expired 2)).agreement.own = some e ∧ e.phase = .withdrawn ballot .expired 2) ∧
     (∀ e b why, running.agreement.own = some e → e.phase ≠ .withdrawn b why 2) ∧
     (running.inReset = false ∧ running.life.state.transmits = true ∧ idle.life.state.transmits = false) ∧
     (other.effective = none ∧ running.slots.cycle = other.firstOffered + running.cfg.offerDeadline.setWidth 16 + 2)) ∧
    ((running.inReset = false ∧ 1 ≤ running.cfg.lagCount.toNat) ∧
     (let f := { Follower.idle 0 with overCount := 3 }; f.lagHold = false ∧ f.overCount = running.cfg.lagCount.toNat) ∧
     (let f := { Follower.idle 0 with lagHold := true, underCount := 3 }; f.lagHold = true ∧ f.underCount = running.cfg.lagCount.toNat) ∧
     (running.follower.lagHold = false ∧ running.follower.overCount ≠ running.cfg.lagCount.toNat) ∧
     ({ running.port with silentDue := true }).silentDue = true ∧ running.port.silentDue = false) :=
  ⟨⟨⟨_, rfl, rfl, by decide +kernel⟩, fun _ _ h => (nomatch h), ⟨_, rfl, rfl⟩, fun _ _ _ h => (nomatch h), by decide +kernel,
    by decide +kernel⟩,
   by decide +kernel⟩

/-- A stop from 400 with D = 400 ends at this boundary, from 401 it does not. -/
theorem witness_TheFourStepsFollowTheirTables :
    let r : LineRecord := { ramp := .stopping, s := 400, t := 0, p := 0, epoch := 0, stoppedSince := 0 }
    (advance 250 400 44 r).ramp = .stopped ∧ (advance 250 400 44 { r with s := 401 }).ramp = .stopping ∧
    (advance 250 400 44 { r with ramp := .ramping, s := 250, t := 500 }).ramp = .steady ∧
    (advance 250 400 44 { r with ramp := .ramping, s := 249, t := 500 }).ramp = .ramping := by decide +kernel

theorem recordOk_running : RecordOk 3000 running.reference.record :=
  ⟨by decide +kernel, fun h => absurd h (by decide +kernel), fun _ => by decide +kernel, fun _ => by decide +kernel,
    fun h => absurd h (by decide +kernel)⟩

theorem witness_FourStepsComeInOrderAndKeepTheRelations : RecordOk 3000 running.reference.record ∧
    ∀ c ∈ [({ origin := 1, kind := .rampTo, target := 3000 } : DueCommit), { origin := 4, kind := .start, target := 1 }],
      1 ≤ c.target.toNat ∧ c.target.toNat ≤ 3000 ∧
      (publishedCommit [({ origin := 1, kind := .start, target := 9 }, true), ({ origin := 2, kind := .rampTo, target := 9 }, true)] = some .start ∧
       publishedCommit [({ origin := 1, kind := .start, target := 9 }, false), ({ origin := 2, kind := .rampTo, target := 9 }, true)] = some .rampTo) :=
  ⟨recordOk_running, by decide⟩

/-- Station 2 with its own entry COMMITTED and station 5's acknowledged. -/
def agreed : State := withOthers (withOwn running (.committed ballot 402 2)) [{ other with effective := some 402 }]

theorem agreementOk_agreed : AgreementOk agreed :=
  ⟨by decide +kernel, by decide +kernel, fun h => absurd h (by decide +kernel), fun h => absurd h (by decide +kernel),
    fun h => absurd h (by decide +kernel), by decide +kernel⟩

theorem witness_DueCommitsAscendByOrigin : AgreementOk agreed ∧
    (agreed.dueCommits 402).map (·.origin) = [1, 4] := ⟨agreementOk_agreed, by decide +kernel⟩

/-- A mismatch and an agreement; a late stop that acts; a snap that acts and one at the same speed, which does not. -/
theorem witness_ReferencePartSnapsAndCompares :
    (frame.state = .member ∧ running.reference.record.ramp.free = true ∧ frame.reference.ramp = .stopped ∧
      running.reference.divergence = false) ∧
    (running.life.state = .member ∧ running.reference.record.ramp.free = true) ∧ member.reference.record.ramp = .stopped ∧
    (let r : LineRecord := { ramp := .stopping, s := 1600, t := 0, p := 0, epoch := 0, stoppedSince := 0 }
     let x : ReferencePart := { ramp := .stopping, t := 0, s := 1599, pLow := 0, epoch := 0, stoppedSince := 0 }
     x.s.toNat < r.s.toNat ∧ ¬ ({ x with s := 1600 }).s.toNat < r.s.toNat) := by decide +kernel

theorem witness_TransmissionBeginsAndEnds :
    (member.inReset = false ∧ ({ member with assembled := (sending member).assembled }).assembled =
      some { frame := frame, startedAt := 60000 } ∧ member.life.state.transmits = true ∧ member.bus.transmit = .idle) ∧
    member.assembled = none ∧ ((sending member).inReset = false ∧
      (sending member).bus.transmit = .sending (frameCharacters frame)) := by decide +kernel

/-- The receipts: none, one begun, one at its expected length with the right and with a wrong CRC, one in its watch. -/
theorem witness_CharactersBuildTheFrameInReceipt :
    (member.inReset = false ∧ member.life.state ≠ .unconfigured ∧ member.bus.transmit = .idle ∧ member.bus.receipt = none) ∧
    (fresh.life.state = .unconfigured ∧ (sending member).bus.transmit ≠ .idle) ∧
    ((frameBytes frame).length = lengthOfCounts (byteAt (frameBytes frame) 27) ∧ 28 ≤ (frameBytes frame).length ∧
      frameBytes frame = (frameBytes frame).take 29 ++ [byteAt (frameBytes frame) 29]) ∧
    crcAgrees (frameBytes frame) = true ∧ crcAgrees ((frameBytes frame).set 29 0) = false ∧
    (heard member frame).bus.receipt = some (receipt frame) ∧ (receipt frame).endTime ≠ none := by decide +kernel

/-- A frame that is invalid, and a frame of station 5 with another count, before and after the mismatch was posted, or another digest. -/
theorem witness_FramesThatReachNoOwner :
    (leaving.life.state = .leaving ∧ leaving.isMember frame.station = false ∧ (online .member).life.state = .member ∧
      (online .member).isMember joiner.station = false ∧
      validFrame (receipt { joiner with cycle := 399 }).bytes = some { joiner with cycle := 399 } ∧ joiner.digest = member.digest ∧
      (399 : Cycle) ≠ member.slots.cycle) ∧
    (∀ r, member.bus.receipt = some r → r.endTime = none) ∧
    ((heard member frame).inReset = false ∧ (heard member frame).bus.receipt = some (receipt frame) ∧
      crcAgrees (receipt frame).bytes = true ∧ validFrame (receipt frame).bytes = some frame ∧ frame.station ≠ member.own ∧
      member.isMember frame.station = true) ∧
    validFrame (receipt { frame with members := 0 }).bytes = none ∧
    ({ frame with cycle := 401 }).cycle ≠ member.slots.cycle ∧ validFrame (receipt { frame with cycle := 399 }).bytes =
      some { frame with cycle := 399 } ∧ member.roster.entries[frame.station].cycleMismatch = false ∧
    (withEntry member { memberEntry with cycleMismatch := true }).roster.entries[frame.station].cycleMismatch = true ∧
    ({ frame with digest := 0 }).digest ≠ member.digest ∧
    ¬ (frame.state = .member ∧ frame.digest = joining.digest ∧ (399 : Cycle) = joining.slots.cycle) :=
  ⟨by decide +kernel, fun _ h => (nomatch h), by decide +kernel, by decide +kernel, by decide +kernel, by decide +kernel, by decide +kernel,
    by decide +kernel, by decide +kernel, by decide +kernel⟩

/-- A frame received whole, from its bytes. -/
theorem whole_of (s : State) (f : Frame) (h : s.inReset = false ∧ crcAgrees (frameBytes f) = true ∧ validFrame (frameBytes f) = some f ∧
    f.station ≠ s.own) : WholeFrame (heard s f) (receipt f) 63418 f := ⟨h.1, rfl, rfl, h.2.1, h.2.2.1, h.2.2.2⟩

/-- The other frames of Table 5-3, first heard and heard again, and a member frame while JOINING, first of the cycle and later. -/
theorem witness_FramesHeardBeforeMembership :
    (WholeFrame (heard listening { frame with digest := 0 }) (receipt { frame with digest := 0 }) 63418 { frame with digest := 0 } ∧
      (heard listening frame).life.state = .listening ∧ (0 : BitVec 16) ≠ listening.digest ∧
      contains listening.life.mismatchReported 4 = false ∧ contains (setInsert 0 (4 : Station)) 4 = true) ∧
    (WholeFrame (heard listening joiner) (receipt joiner) 63418 joiner ∧ joiner.state ≠ .member ∧ joiner.digest = listening.digest ∧
      WholeFrame (heard listening { joiner with digest := 0 }) (receipt { joiner with digest := 0 }) 63418 { joiner with digest := 0 }) ∧
    (WholeFrame (heard joining frame) (receipt frame) 63418 frame ∧ joining.life.state = .joining ∧ frame.state = .member ∧
      frame.digest = joining.digest ∧ frame.cycle = joining.slots.cycle ∧ joining.life.joinHeard = false ∧
      joining.life.admitting = none ∧ contains frame.members joining.own = true) :=
  ⟨⟨whole_of _ _ (by decide +kernel), by decide +kernel⟩,
   ⟨whole_of _ _ (by decide +kernel), by decide +kernel, by decide +kernel, whole_of _ _ (by decide +kernel)⟩,
   whole_of _ _ (by decide +kernel), by decide +kernel⟩

/-- A MEMBER frame and a LEAVING one of member 5, at a MEMBER and at a LEAVING station. -/
theorem witness_HeardFramesReachTheirOwners :
    (WholeFrame (heard member frame) (receipt frame) 63418 frame ∧ member.isMember frame.station = true ∧
      frame.cycle = member.slots.cycle ∧ frame.digest = member.digest ∧ frame.state ≠ .joining ∧ member.life.state = .member) ∧
    (let f := { frame with state := .leaving }
     let s := { leaving with roster := members }
     WholeFrame (heard s f) (receipt f) 63418 f ∧ s.isMember f.station = true ∧ f.state = .leaving ∧ s.life.state = .leaving) :=
  ⟨⟨whole_of _ _ (by decide +kernel), by decide +kernel⟩, whole_of _ _ (by decide +kernel), by decide +kernel⟩

/-- A JOINING frame of a member with the joining-since recorded and with another, and of a candidate, on a STOPPED and on a running line. -/
theorem witness_JoiningFramesMakeCandidates :
    (WholeFrame (heard member joiner) (receipt joiner) 63418 joiner ∧ joiner.state = .joining ∧ joiner.cycle = member.slots.cycle ∧
      joiner.digest = member.digest ∧ member.life.state = .member ∧ member.isMember joiner.station = true) ∧
    ((withEntry member { memberEntry with joiningSince := some 399 }).roster.entries[joiner.station].joiningSince = some joiner.joiningSince ∧
      member.roster.entries[joiner.station].joiningSince ≠ some joiner.joiningSince) ∧
    (member.reference.record.ramp = .stopped ∧ running.reference.record.ramp ≠ .stopped ∧ running.claims.stop = none) ∧
    (withEntry member { memberEntry with state := .candidate }).isMember joiner.station = false :=
  ⟨⟨whole_of _ _ (by decide +kernel), by decide +kernel⟩, by decide +kernel, by decide +kernel, by decide +kernel⟩

/-- A frame of station 7, outside the set {2, 5, 9}, with another digest and with the own, its entry of each kind. -/
theorem witness_FramesFromOutsideTheSet : let f := { frame with station := 6, members := 0x0040 }
    (WholeFrame (heard member f) (receipt f) 63418 f ∧ member.life.state = .member ∧ member.isMember f.station = false) ∧
    (WholeFrame (heard member { f with digest := 0 }) (receipt { f with digest := 0 }) 63418 { f with digest := 0 } ∧
      (0 : BitVec 16) ≠ member.digest) ∧
    (f.digest = member.digest ∧ f.state ≠ .joining ∧ member.roster.entries[f.station].state ≠ .foreign ∧
      member.roster.entries[f.station].state ≠ .mismatch) ∧
    (let e : RosterEntry := { RosterEntry.reset with state := .foreign }; e.state = .foreign) :=
  ⟨⟨whole_of _ _ (by decide +kernel), by decide +kernel⟩, ⟨whole_of _ _ (by decide +kernel), by decide +kernel⟩,
   by decide +kernel, rfl⟩

theorem witness_AMemberFrameIsAdopted : let s := heard listening frame
    s.inReset = false ∧ s.life.state = .listening ∧ s.bus.receipt = some (receipt frame) ∧ (receipt frame).endTime = some 63418 ∧
    crcAgrees (receipt frame).bytes = true ∧ validFrame (receipt frame).bytes = some frame ∧ frame.station ≠ s.own ∧
    frame.state = .member ∧ frame.digest = s.digest ∧ s.agreement.others = [] := by decide +kernel

/-- The own number heard, in each station state that takes it. -/
theorem witness_TheOwnNumberHeardIsADuplicate : let f := { frame with station := 1 }
    (∀ s ∈ [listening, joining, leaving, member, idle, fresh], (heard s f).inReset = false ∧ f.station = (heard s f).own) ∧
    (receipt f).endTime = some 63418 ∧ crcAgrees (receipt f).bytes = true ∧ validFrame (receipt f).bytes = some f := by
  decide +kernel

/-- A due cycle ahead and one reached; a departure and an admission that fall due in cycle 400, on a STOPPED publication and on another; the
departure also where the record runs. -/
theorem witness_AdmissionsAndDeparturesFallDue : (4 : Station) ≠ member.own ∧ ahead (400 + 2 : Cycle) member.slots.cycle = true ∧
    ahead (398 + 2 : Cycle) member.slots.cycle = false ∧ member.notices.queue.length + 2 ≤ 24 ∧
    (let e := (withEntry member { memberEntry with leaveDue := some 400 }).roster.entries[(4 : Station)]
     e.state = .member ∧ e.leaveDue = some member.slots.cycle) ∧
    (let s := withEntry running { memberEntry with leaveDue := some 400 }
     s.life.state = .member ∧ s.reference.record.ramp ≠ .stopped ∧ s.roster.entries[(4 : Station)].state = .member ∧
       s.roster.entries[(4 : Station)].leaveDue = some s.slots.cycle) ∧
    (let e := (withEntry member { memberEntry with state := .candidate, admissionDue := some 400 }).roster.entries[(4 : Station)]
     e.state = .candidate ∧ e.admissionDue = some member.slots.cycle) ∧
    member.reference.lastPublished = .stopped ∧ running.reference.lastPublished ≠ .stopped ∧
    (let e : RosterEntry := { memberEntry with joiningClaims := some { stop := some (.driveFault, 402), hold := true, holdEffective := 401 } }
     e.joiningClaims.bind (·.stop) = some (.driveFault, 402) ∧ memberEntry.joiningClaims.bind (·.stop) = none) := by decide +kernel

/-- A foreign frame on a running line; on a STOPPED one, a set that loses to {2, 5, 9} and sets that win, with and without the own number; an offer
carried and none. -/
theorem witness_TheIslandRuleDecides :
    (contains running.life.islandReported frame.station = false ∧ contains (setInsert 0 frame.station) frame.station = true) ∧ (running.life.state = .member ∧ running.reference.record.ramp ≠ .stopped) ∧
    (member.life.state = .member ∧ member.reference.record.ramp = .stopped ∧ frame.reference.ramp = .stopped ∧ frame.state = .member) ∧
    member.memberSet = 0x0112 ∧ setWins member.memberSet 0x0006 = true ∧ setWins member.memberSet 0x001C = true ∧
    setWins member.memberSet 0x0007 = false ∧ setWins member.memberSet 0x0116 = false ∧
    (contains 0x0007 member.own = true ∧ setWins member.memberSet 0x000D = false ∧ contains 0x000D member.own = false) ∧
    (frame.offer = none ∧ ({ frame with offer := some offerPart }).decision = none) := by decide +kernel

/-- Timing present and absent; slots skipped from the own one up to the sender's; a slot that is over and one that is not. -/
theorem witness_ReAlignmentMovesTheTiming : idle.slots.timing = none ∧ member.slots.timing = some timing ∧
    timing.closesAtRealign 4 = [1, 2, 3] ∧ timing.closesAtRealign 1 = [] ∧ timing.closesAtRealign 0 = [] ∧
    contains timing.closesRaised 1 = false := by decide +kernel

theorem witness_SlotCloseCountsTheSlot : (member.inReset = false ∧ member.slots.timing = some timing) ∧
    (timing.lateClose = none ∧ contains timing.closesRaised 0 = true ∧ contains timing.closesRaised 1 = false ∧
      contains timing.closesRaised 15 = false) ∧
    ({ timing with lateClose := some true }).lateClose = some true ∧ (15 : Station).val = 15 ∧
    timing.currentSlot.val ≤ (1 : Station).val := by decide +kernel

/-- Station 5 with M = 4 missed slots, a member and a candidate; an own OFFERED entry; a count of 3, and the own number. -/
theorem witness_MissedLimitMakesTheEntryAbsent :
    (let s := withEntry (withOwn running (.offered ballot)) { memberEntry with missed := 4 }
     s.inReset = false ∧ s.life.state = .member ∧ (4 : Station) ≠ s.own ∧ s.roster.entries[(4 : Station)].state = .member ∧
     s.roster.entries[(4 : Station)].missed = s.cfg.missedLimit.toNat ∧ s.reference.record.ramp ≠ .stopped ∧ s.claims.stop = none) ∧
    (∃ e, (withOwn running (.offered ballot)).agreement.own = some e ∧ e.phase = .offered ballot) ∧
    (∀ e b, running.agreement.own = some e → e.phase ≠ .offered b) ∧
    (let s := withEntry running { memberEntry with state := .candidate, missed := 4 }
     s.roster.entries[(4 : Station)].state ≠ .member ∧ s.roster.entries[(4 : Station)].missed = s.cfg.missedLimit.toNat) ∧
    running.roster.entries[(4 : Station)].missed ≠ running.cfg.missedLimit.toNat ∧ leaving.life.state = .leaving :=
  ⟨by decide +kernel, ⟨_, rfl, rfl⟩, fun _ _ h => (nomatch h), by decide +kernel, by decide +kernel, by decide +kernel⟩

/-- A MEMBER at a boundary: with a report and without, with and without evidence of exclusion, STOPPED and running. -/
theorem witness_AMemberBringsTheRecordForward :
    (running.inReset = false ∧ running.life.state = .member ∧ running.slots.timing = some timing) ∧
    (running.follower.held = none ∧ (after (.report 0 1) running).follower.held.isSome = true) ∧
    ((bringForward 250 400 401 false false [] running.reference.record).1.ramp ≠ .stopped ∧
      (bringForward 250 400 401 false false [] member.reference.record).1.ramp = .stopped) ∧
    running.life.memberHeard = false ∧ ({ running.life with memberHeard := true }).memberHeard = true ∧
    ({ running.life with memberHeard := true }).ownSeen = false := by decide +kernel

/-- A boundary at which nothing excludes, one that brings the count to 2, and a commit that falls due there. -/
theorem witness_ABoundaryPublishesAndMovesTheRoster :
    (running.inReset = false ∧ running.life.state = .member ∧ running.slots.timing = some timing ∧ running.life.memberHeard = false) ∧
    (let l := { running.life with memberHeard := true, exclusion := 1 }; l.memberHeard = true ∧ l.ownSeen = false ∧ 1 ≤ l.exclusion) ∧
    (∃ e, (withOwn running (.committed ballot 401 2)).agreement.own = some e ∧
      e.phase = .committed ballot (running.slots.cycle + 1) 2) ∧
    (∀ e b n, running.agreement.own = some e → e.phase ≠ .committed b (running.slots.cycle + 1) n) :=
  ⟨by decide +kernel, by decide +kernel, ⟨_, rfl, rfl⟩, fun _ _ _ h => (nomatch h)⟩

/-- JOINING with an admitting set and without; with and without a member frame heard, a report held, and a view that runs. -/
theorem witness_AJoiningStationBecomesMember :
    (joining.inReset = false ∧ joining.life.state = .joining ∧ joining.slots.timing = some timing ∧
      joining.claims.view = Vector.replicate 16 none ∧ joining.agreement.own = none ∧ joining.life.admitting = none) ∧
    ({ joining.life with admitting := some 0x0012 }).admitting = some 0x0012 ∧ joining.life.joinHeard = false ∧
    ({ joining.life with joinHeard := true }).joinHeard = true ∧ (4 : Station) ≠ joining.own ∧
    contains 0x0012 (4 : Station) = true ∧ contains 0x0012 (8 : Station) = false ∧
    (joining.follower.held = none ∧ (after (.report 0 1) joining).follower.held.isSome = true) ∧
    (bringForward 250 400 401 false false [] joining.reference.view).1.ramp = .stopped ∧
    (bringForward 250 400 401 false false [] running.reference.record).1.ramp ≠ .stopped := by decide +kernel

/-- LEAVING with a commit that falls due at the next cycle, and with none; and a station without timing. -/
theorem witness_ALeavingStationSupersedesCommits : idle.slots.timing = none ∧
    (let u := withEntry { leaving with slots := { leaving.slots with cycle := 401 } } { memberEntry with leaveDue := some 401 }
     u.slots.cycle = leaving.slots.cycle + 1 ∧ u.life.state = .leaving ∧ (4 : Station) ≠ u.own ∧
       u.roster.entries[(4 : Station)].state = .member ∧ u.roster.entries[(4 : Station)].leaveDue = some 401) ∧
    (leaving.inReset = false ∧ leaving.slots.timing = some timing ∧ leaving.life.state = .leaving ∧
      ∀ k : Station, leaving.roster.entries[k].leaveDue ≠ some (leaving.slots.cycle + 1)) ∧
    (∃ e, (withOwn leaving (.committed ballot 401 2)).agreement.own = some e ∧
      e.phase = .committed ballot (leaving.slots.cycle + 1) 2) ∧
    ∀ e b n, leaving.agreement.own = some e → e.phase ≠ .committed b (leaving.slots.cycle + 1) n :=
  ⟨by decide +kernel, by decide +kernel, by decide +kernel, ⟨_, rfl, rfl⟩, fun _ _ _ h => (nomatch h)⟩

/-- Each transmitting state before its own-slot start; a hold to announce; a start already raised. -/
theorem witness_OwnSlotStartAssemblesTheFrame :
    (∀ s ∈ [joining, member, leaving], s.inReset = false ∧ s.slots.timing = some timing ∧ s.life.state.transmits = true) ∧
    timing.ownStartRaised = false ∧
    ((after .setHold member).combinedHold ≠ (after .setHold member).claims.announced ∧
      (after .setHold member).claims.announcedEffective = none) ∧ member.combinedHold = member.claims.announced ∧
    (timing.ownStarted 1).ownStartRaised = true := by decide +kernel

theorem agreementOk_awaiting : AgreementOk (withOthers running [other]) :=
  ⟨by decide +kernel, by decide +kernel, fun h => absurd h (by decide +kernel), fun h => absurd h (by decide +kernel),
    fun h => absurd h (by decide +kernel), by decide +kernel⟩

theorem witness_VerdictsAreGivenAndRepeated : let s := withOthers running [other]
    s.inReset = false ∧ AgreementOk s ∧ s.life.state = .member ∧ s.slots.timing = some timing ∧ timing.ownStartRaised = false ∧
    other.effective = none ∧ other.verdict = none ∧ contains other.voters s.own = true ∧ s.agreement.others = [] ++ other :: [] :=
  ⟨by decide +kernel, agreementOk_awaiting, by decide +kernel, by decide +kernel, by decide +kernel, by decide +kernel,
    by decide +kernel, by decide +kernel, rfl⟩

/-- The own entry in each phase, with a check that fails and one that passes, a refusal, a full and a short ack set, and announcements 1 and 2; at a
LEAVING station a decision with announcements left and one without, and a JOINING station. -/
theorem witness_TheOwnEntryMovesAtItsSlot :
    (running.inReset = false ∧ running.life.state = .member ∧ running.slots.timing = some timing ∧ timing.ownStartRaised = false) ∧
    ((withOwn member .queued).giveVerdicts.offerCheck .rampTo 1800 none 1 = some .notRunning ∧
      (withOwn running .queued).giveVerdicts.offerCheck .rampTo 1800 none 1 = none) ∧
    ({ ballot with refusal := some (4, .conflict) }).refusal = some (4, .conflict) ∧
    (∀ k : Station, contains ballot.voters k = true → running.isMember k = true →
      contains ({ ballot with acks := 0x0112 }).acks k = true) ∧
    (contains ballot.voters 4 = true ∧ running.isMember 4 = true ∧ contains ballot.acks 4 = false ∧ ballot.refusal = none) ∧
    running.agreement.own = none ∧
    (∀ phase ∈ [OwnPhase.committed ballot 402 1, .committed ballot 402 2, .withdrawn ballot .refused 0, .withdrawn ballot .refused 2],
      let s := withOwn leaving phase
      s.inReset = false ∧ s.life.state = .leaving ∧ s.slots.timing = some timing ∧ s.agreement.own.map (·.phase) = some phase) ∧
    (joining.inReset = false ∧ joining.life.state = .joining ∧ joining.slots.timing = some timing ∧ joining.agreement.own = none) := by
  decide +kernel

/-! Every invariant whose keeping is stated holds in a configured state with a command waiting, and the step from it answers a next state. -/

/-- The state with one command waiting. -/
def waiting (s : State) (c : Instr) : State := { s with pending := [c] }

theorem witness_StepKeepsTheTimingAndTheStore :
    TimingOk (waiting member .leave) ∧ StoreOk (waiting member .leave) ∧ ∃ t, step (waiting member .leave) = .next t :=
  ⟨⟨by decide +kernel, fun h => absurd h (by decide +kernel)⟩,
    ⟨by decide +kernel, fun _ h => by cases h; exact ⟨record_in_range, by decide +kernel⟩, by decide +kernel⟩, _, rfl⟩

theorem witness_StepKeepsTheBlocksOutsideMember :
    PermitOk (waiting running .resetN) ∧ ReferenceOk (waiting running .resetN) ∧ OutsideOk (waiting running .resetN) ∧
      ∃ t, step (waiting running .resetN) = .next t :=
  ⟨by unfold PermitOk; decide +kernel, ⟨fun h => absurd rfl h, fun _ => by decide +kernel⟩,
    ⟨fun h => absurd rfl h, fun h => absurd rfl h, fun h => absurd rfl h⟩, _, rfl⟩

theorem witness_StepKeepsTheProposalTable :
    AgreementOk (waiting agreed .withdrawOffer) ∧ ∃ t, step (waiting agreed .withdrawOffer) = .next t :=
  ⟨⟨by decide +kernel, by decide +kernel, fun h => absurd h (by decide +kernel), fun h => absurd h (by decide +kernel),
    fun h => absurd h (by decide +kernel), by decide +kernel⟩, _, rfl⟩

theorem witness_StepKeepsTheNoticeQueueAndTheBusPort :
    (NoticesOk (waiting fresh (.configure record)) ∧ ∃ t, step (waiting fresh (.configure record)) = .next t) ∧
    (BusOk (waiting (sending member) .collision) ∧ ∃ t, step (waiting (sending member) .collision) = .next t) :=
  ⟨⟨by unfold NoticesOk; decide +kernel, _, rfl⟩,
   ⟨⟨by decide +kernel, by decide +kernel, by decide +kernel, by decide +kernel, by decide +kernel⟩, _, rfl⟩⟩

theorem witness_StepKeepsAssembledFramesValid :
    FrameOk (waiting agreed .ownSlotStart) ∧ ∃ t, step (waiting agreed .ownSlotStart) = .next t :=
  ⟨⟨⟨by decide +kernel, by decide +kernel, fun h => absurd h (by decide +kernel), fun h => absurd h (by decide +kernel),
      fun h => absurd h (by decide +kernel), by decide +kernel⟩,
    fun _ _ h hp => by cases h; exact (nomatch hp), fun _ h => (nomatch h), fun _ h => (nomatch h)⟩, _, rfl⟩

theorem witness_FrameEncodingReadsBack : contentValid frame = true ∧ frame.responses.length ≤ 15 := by decide +kernel

end Sys2Proof.Tests
end

section
/-! PROOFS. The fields of the claim unit and of the reference unit that an operation leaves as they were, where it changes
another field of the same unit. -/

namespace Sys2Proof.Machine
open Sys2Proof

/-! ## RUN_PERMIT and the claim view -/

@[simp] theorem State.raise_claims_kept (s : State) (cause : StopCause) :
    (s.raise cause).claims.runPermit = s.claims.runPermit ∧ (s.raise cause).claims.view = s.claims.view := by
  cases h : s.claims.stop with
  | none => simp [State.raise_clear cause h]
  | some k => rw [State.raise_set cause h]; split <;> simp

@[simp] theorem State.setRecord_runPermit (s : State) (k : Station) (r : Option ClaimRecord) :
    (s.setRecord k r).claims.runPermit = s.claims.runPermit := rfl

@[simp] theorem State.setRecord_view (s : State) (k : Station) (r : Option ClaimRecord) :
    (s.setRecord k r).claims.view = s.claims.view.set k r := rfl

@[simp] theorem State.recogniseInput_claims_kept (s : State) (n : Fin 4) (high : Bool) :
    (s.recogniseInput n high).claims.runPermit = s.claims.runPermit ∧
      (s.recogniseInput n high).claims.view = s.claims.view := by
  unfold State.recogniseInput; dsimp only; (repeat' split) <;> simp

@[simp] theorem State.raiseActiveInputs_claims_kept (s : State) :
    s.raiseActiveInputs.claims.runPermit = s.claims.runPermit ∧ s.raiseActiveInputs.claims.view = s.claims.view :=
  ⟨foldl_field (g := fun s => s.claims.runPermit) (fun s a => by simp) _ _,
    foldl_field (g := fun s => s.claims.view) (fun s a => by simp) _ _⟩

@[simp] theorem State.clearStop_claims_kept (s : State) :
    s.clearStop.1.claims.runPermit = s.claims.runPermit ∧ s.clearStop.1.claims.view = s.claims.view := by
  unfold State.clearStop; dsimp only; split <;> simp

@[simp] theorem State.takeDecision_claims_kept (s : State) (k : Station) (d : DecisionPart) :
    (s.takeDecision k d).claims.runPermit = s.claims.runPermit ∧ (s.takeDecision k d).claims.view = s.claims.view := by
  unfold State.takeDecision; dsimp only; (repeat' split) <;> simp

@[simp] theorem State.takeProposalParts_claims_kept (s : State) (f : Frame) :
    (s.takeProposalParts f).claims.runPermit = s.claims.runPermit ∧
      (s.takeProposalParts f).claims.view = s.claims.view := by
  unfold State.takeProposalParts; dsimp only; (repeat' split) <;> simp

@[simp] theorem State.takeAgreementPart_claims_kept (s : State) (f : Frame) :
    (s.takeAgreementPart f).claims.runPermit = s.claims.runPermit ∧
      (s.takeAgreementPart f).claims.view = s.claims.view := by
  unfold State.takeAgreementPart; dsimp only; split <;> simp

@[simp] theorem State.claimsSlot_claims_kept (s : State) :
    s.claimsSlot.claims.runPermit = s.claims.runPermit ∧ s.claimsSlot.claims.view = s.claims.view := by
  unfold State.claimsSlot announceHold; dsimp only; split <;> simp

@[simp] theorem State.slotStartWork_claims_kept (s : State) :
    s.slotStartWork.claims.runPermit = s.claims.runPermit ∧ s.slotStartWork.claims.view = s.claims.view := by
  simp [State.slotStartWork]

@[simp] theorem ownClaimsBoundary_kept (new : Cycle) (u : ClaimUnit) :
    (ownClaimsBoundary new u).runPermit = u.runPermit ∧ (ownClaimsBoundary new u).view = u.view := by
  unfold ownClaimsBoundary settleHold; split <;> simp

@[simp] theorem claimsBoundary_runPermit (new : Cycle) (u : ClaimUnit) : (claimsBoundary new u).runPermit = u.runPermit := by
  simp [claimsBoundary]

/-! ## RUN_PERMIT, the last published ramp state and the observed view, at a MEMBER's work on frames and its roster -/

/-- What a MEMBER's work between two publications leaves: RUN_PERMIT, the last published ramp state and the observed view. -/
structure MemberKept (s t : State) : Prop where
  permit : t.claims.runPermit = s.claims.runPermit
  published : t.reference.lastPublished = s.reference.lastPublished
  observed : t.reference.view = s.reference.view

theorem MemberKept.refl (s : State) : MemberKept s s := ⟨rfl, rfl, rfl⟩

theorem MemberKept.trans {s t u : State} (a : MemberKept s t) (b : MemberKept t u) : MemberKept s u :=
  ⟨b.permit.trans a.permit, b.published.trans a.published, b.observed.trans a.observed⟩

/-- What leaves the reference unit and RUN_PERMIT alone. -/
theorem MemberKept.of_reference {s t : State} (hp : t.claims.runPermit = s.claims.runPermit) (hr : t.reference = s.reference) :
    MemberKept s t :=
  ⟨hp, by rw [hr], by rw [hr]⟩

/-- The choice between two operations, each of which leaves them. -/
theorem MemberKept.ite {s t u : State} {p : Prop} [Decidable p] (ht : MemberKept s t) (hu : MemberKept s u) :
    MemberKept s (if p then t else u) := by
  split <;> assumption

theorem MemberKept.setRecord (s : State) (k : Station) (r : Option ClaimRecord) : MemberKept s (s.setRecord k r) := ⟨rfl, rfl, rfl⟩

theorem MemberKept.setEntry (s : State) (k : Station) (entry : RosterEntry) : MemberKept s (s.setEntry k entry) := ⟨rfl, rfl, rfl⟩

theorem MemberKept.post (s : State) (kind : NoticeKind) (station : Nat) (detail : Byte) (value : BitVec 16) :
    MemberKept s (s.post kind station detail value) := ⟨rfl, rfl, rfl⟩

theorem MemberKept.raise (s : State) (cause : StopCause) : MemberKept s (s.raise cause) := .of_reference (by simp) (by simp)

theorem MemberKept.lateStop (s : State) : MemberKept s s.lateStop := by
  unfold State.lateStop; split <;> exact ⟨rfl, rfl, rfl⟩

theorem MemberKept.firstHeardStop (s : State) (k : Station) (r : ClaimRecord) (cause : StopCause) (e : Cycle) :
    MemberKept s (s.firstHeardStop k r cause e) := by
  unfold State.firstHeardStop
  extract_lets due heard t
  have ht : MemberKept s t := (MemberKept.setRecord s k _).trans (.post _ _ _ _ _)
  exact .ite (ht.trans (.lateStop t)) ht

theorem MemberKept.createRecord (s : State) (k : Station) (stop : Option (StopCause × Cycle)) (hold : Bool) (e : Cycle) :
    MemberKept s (s.createRecord k stop hold e) := by
  unfold State.createRecord
  extract_lets r
  split
  · exact .setRecord s k _
  · exact .firstHeardStop s k r _ _

theorem MemberKept.takeStopPart (s : State) (f : Frame) : MemberKept s (s.takeStopPart f) := by
  unfold State.takeStopPart
  split
  · exact .createRecord ..
  · split
    · exact .setRecord s _ _
    · exact .ite (.refl s) (.firstHeardStop ..)

theorem MemberKept.takeHoldPart (s : State) (f : Frame) : MemberKept s (s.takeHoldPart f) := by
  unfold State.takeHoldPart
  split
  · exact .refl s
  · refine .ite (.ite (.setRecord s _ _) (.ite (.setRecord s _ _) ?_)) (.refl s)
    exact (MemberKept.setRecord s _ _).trans (.raise _ _)

theorem MemberKept.takeAgreementPart (s : State) (f : Frame) : MemberKept s (s.takeAgreementPart f) :=
  .of_reference (by simp) (by simp)

theorem MemberKept.takeReferencePart (s : State) (f : Frame) : MemberKept s (s.takeReferencePart f) := by
  unfold State.takeReferencePart
  refine .ite (.trans ?_ (.raise _ _)) ?_ <;> exact ⟨rfl, rfl, rfl⟩

/-- The four parts in any of the eight orders. -/
theorem MemberKept.takeParts (s : State) (f : Frame) (order : PartOrder) : MemberKept s (s.takeParts f order) := by
  unfold State.takeParts
  extract_lets agree reference hold stopTaken
  have agrees (place : Fin 4) {t : State} (ht : MemberKept s t) : MemberKept s (agree place t) :=
    .ite (ht.trans (.takeAgreementPart t f)) ht
  have refers {t : State} (ht : MemberKept s t) : MemberKept s (reference t) := ht.trans (.takeReferencePart t f)
  have holds {t : State} (ht : MemberKept s t) : MemberKept s (hold t) := ht.trans (.takeHoldPart t f)
  have start : MemberKept s stopTaken := agrees 1 ((agrees 0 (.refl s)).trans (.takeStopPart _ f))
  exact .ite (agrees 3 (holds (agrees 2 (refers start)))) (agrees 3 (refers (agrees 2 (holds start))))

theorem MemberKept.removeMember (s : State) (k : Station) (reason : RemovalReason) : MemberKept s (s.removeMember k reason) := by
  refine .of_reference ?_ (by simp)
  unfold State.removeMember
  extract_lets t₁ t₂ t₃
  have h₃ : t₃.claims.runPermit = s.claims.runPermit := by simp [t₃, t₂, t₁]
  split <;> simp [h₃]

theorem MemberKept.admitStation (s : State) (k : Station) (late : Bool) : MemberKept s (s.admitStation k late) := by
  unfold State.admitStation
  extract_lets e t₁ t₂
  have h₂ : MemberKept s t₂ := (MemberKept.setEntry s k _).trans (.post _ _ _ _ _)
  split <;> exact h₂.trans (.createRecord ..)

theorem MemberKept.admissionTest (s : State) (k : Station) (c : Cycle) : MemberKept s (s.admissionTest k c) :=
  .ite (.setEntry s k _) (.admitStation s k true)

theorem MemberKept.takeCandidate (s : State) (f : Frame) : MemberKept s (s.takeCandidate f) := by
  unfold State.takeCandidate
  extract_lets k e t₁ t₂
  have h₁ : MemberKept s t₁ := .setEntry s k _
  have h₂ : MemberKept s t₂ := .ite h₁ (h₁.trans (.post _ _ _ _ _))
  exact .ite (.setEntry s k _) (.ite (h₂.trans (.admissionTest t₂ k _)) h₂)

theorem MemberKept.takeMemberJoining (s : State) (f : Frame) : MemberKept s (s.takeMemberJoining f) := by
  unfold State.takeMemberJoining
  extract_lets k e t₁ t₂
  have h₂ : MemberKept s t₂ := (MemberKept.removeMember s k .restarted).trans (.post _ _ _ _ _)
  exact .ite (.setEntry s k _) (h₂.trans (.takeCandidate t₂ f))

theorem MemberKept.rosterPublication (s : State) (k : Station) : MemberKept s (s.rosterPublication k) :=
  .ite (.refl s) (.ite (.removeMember s k .left) (.ite (.ite (.admitStation s k false) (.setEntry s k _)) (.refl s)))

/-- The roster's work at a publication, over all stations. -/
theorem MemberKept.rosterFold (l : List Station) (s : State) : MemberKept s (l.foldl State.rosterPublication s) := by
  induction l generalizing s with
  | nil => exact .refl s
  | cons k l ih => exact (MemberKept.rosterPublication s k).trans (ih _)

end Sys2Proof.Machine
end

section
/-! PROOFS. A publication (R4, R14): what it leaves before the roster's work, as one equation, and what the roster's work leaves. -/

namespace Sys2Proof.Machine
open Sys2Proof

/-! ## The notices of a publication -/

/-- The record brought forward at a publication, with the commits' outcomes (R4). -/
def State.forward (s : State) : LineRecord × List (DueCommit × Bool) :=
  bringForward s.cfg.rampStep s.cfg.stopStep s.slots.cycle s.claims.stopEffective s.claims.holdSet (s.dueCommits s.slots.cycle)
    s.reference.record

/-- RAMP_STATE, where the ramp state is another than last published (R14). -/
def rampNotices (last : RampState) (r : LineRecord) : List OwnNotice :=
  if r.ramp = last then [] else [(.rampState, 0, r.ramp.code, r.s)]

/-- The notices of one processed commit (R34, R44): OFFER_RESULT for the own entry, CHANGE_APPLIED where it was applied. -/
def commitNotices (own : Station) (serial : Byte) (x : DueCommit × Bool) : List OwnNotice :=
  (if x.1.origin = own then [offerResultNotice (if x.2 = true then .applied else .superseded) serial 0 0] else []) ++
    (if x.2 = true then [(.changeApplied, stationNumber x.1.origin, x.1.kind.code, x.1.target)] else [])

theorem State.postRampState_eq (s : State) : s.postRampState = { s with
    reference := { s.reference with lastPublished := s.reference.record.ramp }
    notices := s.noticesAfter (rampNotices s.reference.lastPublished s.reference.record) } := by
  unfold State.postRampState rampNotices
  dsimp only
  split <;> rfl

theorem State.postCommit_eq (serial : Byte) (s : State) (x : DueCommit × Bool) :
    State.postCommit serial s x = { s with notices := s.noticesAfter (commitNotices s.own serial x) } := by
  obtain ⟨c, applied⟩ := x
  unfold State.postCommit commitNotices
  by_cases h : c.origin = s.own <;> cases applied <;> simp only [h] <;> rfl

/-- The processed commits post in their order, and change the notices alone. -/
theorem State.postCommits_eq (serial : Byte) (outcomes : List (DueCommit × Bool)) (s : State) :
    outcomes.foldl (State.postCommit serial) s =
      { s with notices := s.noticesAfter (outcomes.flatMap (commitNotices s.own serial)) } := by
  induction outcomes generalizing s with
  | nil => rfl
  | cons x rest ih =>
    rw [List.foldl_cons, ih, State.postCommit_eq, List.flatMap_cons, State.noticesAfter_append]
    rfl

/-! ## The state before the roster's work -/

/-- The own entry's serial, for its OFFER_RESULT. -/
def State.ownSerial (s : State) : Byte := (s.agreement.own.map (·.serial)).getD 0

/-- The report-miss count of a publication, and whether it leaves LOCAL_SILENT due (R148). -/
def State.missAfter (s : State) : Nat × Bool :=
  missStep s.cfg.reportTimeout.toNat s.forward.1.ramp s.follower.held.isSome s.port.missCount

/-- The state that a publication leaves before the roster's work: record, RUN_PERMIT, follower, report-miss count, table and
notices (R4, R14, R44, R67, R138). -/
def State.published (s : State) : State := { s with
  reference := { s.reference with record := s.forward.1, lastPublished := s.forward.1.ramp }
  claims := { s.claims with runPermit := s.forward.1.ramp.running }
  follower := followerPublish s.cfg s.forward.1 s.slots.cycle (publishedCommit s.forward.2 == some .start) s.follower
  port := { s.port with missCount := s.missAfter.1, silentDue := s.missAfter.2 }
  agreement := (s.removeDue s.slots.cycle).agreement
  notices := s.noticesAfter
    (rampNotices s.reference.lastPublished s.forward.1 ++ s.forward.2.flatMap (commitNotices s.own s.ownSerial)) }

theorem State.published_notices (s : State) : s.published.notices = s.noticesAfter
    (rampNotices s.reference.lastPublished s.forward.1 ++ s.forward.2.flatMap (commitNotices s.own s.ownSerial)) := rfl

theorem State.processCommits_eq (s : State) (new : Cycle) (outcomes : List (DueCommit × Bool)) :
    s.processCommits new outcomes = { s with
      agreement := (s.removeDue new).agreement
      notices := s.noticesAfter (outcomes.flatMap (commitNotices s.own s.ownSerial)) } := by
  unfold State.processCommits
  rw [State.postCommits_eq, State.noticesAfter_congr (s := s) (t := s.removeDue new) rfl rfl rfl]
  rfl

/-- The state with its record brought forward. -/
def State.forwarded (s : State) : State := { s with reference := { s.reference with record := s.forward.1 } }

/-- The record, its RAMP_STATE notice, RUN_PERMIT and the follower at a publication. -/
theorem State.follow_eq (s : State) (started : Bool) :
    s.forwarded.postRampState.drivePermit.followPublication started =
      { s with
        reference := { s.reference with record := s.forward.1, lastPublished := s.forward.1.ramp }
        claims := { s.claims with runPermit := s.forward.1.ramp.running }
        follower := followerPublish s.cfg s.forward.1 s.slots.cycle started s.follower
        port := { s.port with missCount := s.missAfter.1, silentDue := s.missAfter.2 }
        notices := s.noticesAfter (rampNotices s.reference.lastPublished s.forward.1) } := by
  rw [State.postRampState_eq, State.noticesAfter_congr (s := s) (t := s.forwarded) rfl rfl rfl]
  rfl

/-- A publication: that state, and on it the roster takes its stations in ascending order of number (R79, R83). -/
theorem State.publish_eq (s : State) : s.publish = allStations.foldl State.rosterPublication s.published := by
  have hb : s.bringRecordForward = (s.forwarded, s.forward.2) := rfl
  unfold State.publish
  rw [hb]
  refine congrArg (allStations.foldl State.rosterPublication) ?_
  generalize ht : s.forwarded.postRampState.drivePermit.followPublication _ = t
  rw [State.follow_eq] at ht
  have hn : t.noticesAfter = { s with notices := s.noticesAfter (rampNotices s.reference.lastPublished s.forward.1) }.noticesAfter := by
    funext posts
    subst ht
    apply State.noticesAfter_congr <;> rfl
  rw [State.processCommits_eq, hn, ← State.noticesAfter_append]
  subst ht
  rfl

/-! ## The roster's work -/

/-- A publication drives RUN_PERMIT by the ramp state it publishes (R67), and leaves the observed view. -/
theorem State.publish_kept (s : State) : s.publish.claims.runPermit = s.publish.reference.lastPublished.running ∧
    s.publish.reference.view = s.reference.view := by
  rw [State.publish_eq]
  have h := MemberKept.rosterFold allStations s.published
  rw [h.permit, h.published, h.observed]
  exact ⟨rfl, rfl⟩

/-! ## A JOINING station becomes MEMBER -/

/-- A JOINING station with the set adopted and the record copied from its observed view, STATION_STATE posted, before its first
publication (R21, R90, R97). -/
def State.adopted (s : State) (set : StationSet) : State := { s with
  life := { s.life with
    state := .member, exclusion := 0, joiningSince := none, admitting := none, joinHeard := false, listenTimer := none,
    memberHeard := false, ownSeen := false, firstSet := none, islandReported := 0 }
  roster := adoptedRoster s.own set
  reference := { s.reference with record := s.reference.view, view := LineRecord.reset, viewCycle := 0, lastPublished := .stopped }
  notices := s.noticesAfter [stationStateNotice .member .joining] }

theorem State.becomeMember_eq (s : State) (set : StationSet) : s.becomeMember set = (s.adopted set).publish := rfl

end Sys2Proof.Machine
end

section
/-! PROOFS. Every step keeps RUN_PERMIT, the record, the observed view, the claim view, the follower and the roster to their
station states (R2, R20, R61, R67, R70, R135, R136): one lemma for each operation, and the induction over a step. -/

namespace Sys2Proof.Machine
open Sys2Proof

/-! ## The relation -/

/-- Outside MEMBER the invariant says that RUN_PERMIT is deasserted (R67). -/
theorem permitOk_outside {s : State} (h : s.life.state ≠ .member) : PermitOk s ↔ s.claims.runPermit = false := by
  simp [PermitOk, beq_eq_false_iff_ne.2 h]

/-- A change from s to t keeps each of the three invariants on its own. -/
structure BlocksKept (s t : State) : Prop where
  permit : PermitOk s → PermitOk t
  reference : ReferenceOk s → ReferenceOk t
  outside : OutsideOk s → OutsideOk t

theorem BlocksKept.refl (s : State) : BlocksKept s s := ⟨id, id, id⟩

theorem BlocksKept.trans {s t u : State} (a : BlocksKept s t) (b : BlocksKept t u) : BlocksKept s u :=
  ⟨b.permit ∘ a.permit, b.reference ∘ a.reference, b.outside ∘ a.outside⟩

/-- The choice between two operations. -/
theorem BlocksKept.ite {s t u : State} {p : Prop} [Decidable p] (ht : p → BlocksKept s t) (hu : ¬ p → BlocksKept s u) :
    BlocksKept s (if p then t else u) := by
  split
  · exact ht ‹_›
  · exact hu ‹_›

/-- An operation that leaves the station state and every block that the invariants read. -/
theorem BlocksKept.of_unmoved {s t : State} (hl : t.life.state = s.life.state) (hr : t.reference = s.reference)
    (hp : t.claims.runPermit = s.claims.runPermit) (hv : t.claims.view = s.claims.view) (hf : t.follower = s.follower)
    (ho : t.roster = s.roster) : BlocksKept s t where
  permit h := by simpa [PermitOk, hl, hr, hp] using h
  reference h := by simpa [ReferenceOk, hl, hr] using h
  outside h := ⟨by simpa [hl, hv] using h.view, by simpa [hl, hf] using h.follower, by simpa [hl, ho] using h.roster⟩

/-- An operation of a MEMBER between two publications. -/
theorem BlocksKept.of_member {s t : State} (hm : s.life.state = .member) (hl : t.life.state = s.life.state) (h : MemberKept s t) :
    BlocksKept s t where
  permit hs := by simpa [PermitOk, hl, h.permit, h.published] using hs
  reference hs := ⟨fun ht => absurd (hl.trans hm) ht, fun _ => h.observed.trans (hs.2 (by simp [hm]))⟩
  outside _ := ⟨fun ht => absurd (hl.trans hm) ht, fun ht => absurd (hl.trans hm) ht, fun ht => absurd (hl.trans hm) ht⟩

/-- An operation of a LEAVING station, which may move the roster and remove a record from the claim view, empty as it is. -/
theorem BlocksKept.of_leaving {s t : State} (hm : s.life.state = .leaving) (hl : t.life.state = s.life.state) (hr : t.reference = s.reference)
    (hp : t.claims.runPermit = s.claims.runPermit) (hf : t.follower = s.follower)
    (hv : s.claims.view = Vector.replicate 16 none → t.claims.view = Vector.replicate 16 none) : BlocksKept s t where
  permit h := by simpa [PermitOk, hl, hr, hp] using h
  reference h := by simpa [ReferenceOk, hl, hr] using h
  outside h := ⟨fun _ => hv (h.view (by simp [hm])), by simpa [hl, hf] using h.follower, fun _ ht => absurd (hl.trans hm) ht⟩

/-- A change of kind (a) (Table 5-6) to a silent state. -/
theorem BlocksKept.of_silent {s t : State} (h : SilentExit s t) (ht : t.life.state ≠ .member) : BlocksKept s t where
  permit _ := by simp [PermitOk, h.claims, ht]
  reference _ := by simp [ReferenceOk, h.reference, ReferenceUnit.exited]
  outside _ := by constructor <;> simp [h.claims, h.follower, h.roster, Follower.idle, SetpointRecord.idle]

/-- A change of kind (b) (Table 5-6), to JOINING. -/
theorem BlocksKept.of_rejoined {s t : State} (h : MembershipExit s t) : BlocksKept s t where
  permit _ := by simp [PermitOk, h.claims, h.state]
  reference _ := by simp [ReferenceOk, h.state, h.record]
  outside _ := by constructor <;> simp [h.claims, h.follower, h.roster, Follower.idle, SetpointRecord.idle]

/-! ## The operations that leave those blocks -/

theorem BlocksKept.raise (s : State) (cause : StopCause) : BlocksKept s (s.raise cause) := by
  apply BlocksKept.of_unmoved <;> simp

/-- A held report discarded (R136). -/
theorem BlocksKept.dropReport (s : State) : BlocksKept s s.dropReport where
  permit := id
  reference := id
  outside h := ⟨h.view, fun ht => congrArg (fun f => { f with held := none }) (h.follower ht), h.roster⟩

/-- An idle follower has no lag count at its limit. -/
theorem lagTake_idle {n : Nat} {f : Follower} (h : f = { Follower.idle f.record.cycle with held := f.held }) : lagTake n f = f := by
  have hl : f.lagHold = false := by rw [h]; rfl
  have ho : f.overCount = 0 := by rw [h]; rfl
  simp only [lagTake, lagDue, hl, ho]
  grind

theorem BlocksKept.takeLag (s : State) : BlocksKept s s.takeLag where
  permit := id
  reference := id
  outside h := ⟨h.view, fun ht => by
    show lagTake _ s.follower = _
    rw [State.takeLag, lagTake_idle (h.follower ht)]
    exact h.follower ht, h.roster⟩

/-- Outside MEMBER a report is only held (R136). -/
theorem State.takeReport_follower_outside {s : State} (p : Position) (ready : Bool) (h : s.life.state ≠ .member) :
    (s.takeReport p ready).follower = { s.follower with held := some (p, ready) } := by
  simp [State.takeReport, h]

@[simp] theorem State.takeReport_claims_kept (s : State) (p : Position) (ready : Bool) :
    (s.takeReport p ready).claims.runPermit = s.claims.runPermit ∧ (s.takeReport p ready).claims.view = s.claims.view := by
  unfold State.takeReport; dsimp only; split <;> simp

theorem BlocksKept.takeReport (s : State) (p : Position) (ready : Bool) : BlocksKept s (s.takeReport p ready) where
  permit h := by simpa [PermitOk] using h
  reference h := by simpa [ReferenceOk] using h
  outside h := by
    refine ⟨by simpa using h.view, fun ht => ?_, by simpa using h.roster⟩
    have ht : s.life.state ≠ .member := by simpa using ht
    rw [State.takeReport_follower_outside p ready ht]
    exact congrArg (fun f => { f with held := some (p, ready) }) (h.follower ht)

/-- The close of a slot leaves a roster at its reset values, whatever it counts: no entry is there to count for. -/
theorem State.countSlot_reset {s : State} (k : Station) (heard : Bool) (h : s.roster = Roster.reset) :
    (s.countSlot k heard).roster = Roster.reset := by
  have he : s.roster.entries[k] = RosterEntry.reset := by simp [h, Roster.reset]
  unfold State.countSlot
  simp only [he]
  split
  · exact h
  · split
    · show Roster.mk (s.roster.entries.set k RosterEntry.reset) s.roster.heard = Roster.reset
      rw [h]; simp only [Roster.reset]; congr 1; simp
    · simpa [RosterEntry.reset] using h

/-- What a close can do: nothing, or a mark in the timing and one count in the roster. -/
theorem State.closeSlot_cases (s : State) (k : Station) :
    s.closeSlot k = s ∨ ∃ slots heard, s.closeSlot k = State.countSlot { s with slots := slots } k heard := by
  unfold State.closeSlot
  split
  · exact .inl rfl
  · split
    · split
      · exact .inr ⟨_, _, rfl⟩
      · split
        · exact .inl rfl
        · exact .inr ⟨_, _, rfl⟩
    · split
      · exact .inl rfl
      · exact .inr ⟨_, _, rfl⟩

theorem BlocksKept.closeSlot (s : State) (k : Station) : BlocksKept s (s.closeSlot k) where
  permit h := by simpa [PermitOk] using h
  reference h := by simpa [ReferenceOk] using h
  outside h := by
    refine ⟨by simpa using h.view, by simpa using h.follower, fun hm hl => ?_⟩
    have hr : s.roster = Roster.reset := h.roster (by simpa using hm) (by simpa using hl)
    obtain hc | ⟨_, _, hc⟩ := s.closeSlot_cases k
    · rw [hc]; exact hr
    · rw [hc]; exact State.countSlot_reset _ _ hr

/-- Slot timing is none of the blocks. -/
theorem BlocksKept.slots (s : State) (slots : SlotTimer) : BlocksKept s { s with slots := slots } :=
  .of_unmoved rfl rfl rfl rfl rfl rfl

/-- The closes of a re-alignment, one after another. -/
theorem BlocksKept.closes (l : List Station) (s : State) : BlocksKept s (l.foldl State.closeSlot s) := by
  induction l generalizing s with
  | nil => exact .refl s
  | cons k l ih => exact (BlocksKept.closeSlot s k).trans (ih _)

theorem BlocksKept.realign (s : State) (k : Station) (endTime bytes : Nat) : BlocksKept s (s.realign k endTime bytes) := by
  unfold State.realign
  split
  · exact .refl s
  · exact (BlocksKept.closes _ s).trans (.slots _ _)

/-! ## Frames handed on -/

/-- A member frame at a JOINING station refreshes the observed view, and no other block that the invariants read. -/
theorem BlocksKept.takeMemberFrame {s : State} (f : Frame) (h : s.life.state = .joining) : BlocksKept s (s.takeMemberFrame f) where
  permit hs := by
    unfold State.takeMemberFrame
    split <;> simpa [PermitOk, h] using hs
  reference hs := by
    have hr : s.reference.record = LineRecord.reset := hs.1 (by simp [h])
    unfold State.takeMemberFrame
    split <;> simp [ReferenceOk, h, hr]
  outside hs := by
    refine ⟨fun _ => ?_, fun _ => ?_, fun _ _ => ?_⟩
    · simpa [State.takeMemberFrame] using hs.view (by simp [h])
    · simpa using hs.follower (by simp [h])
    · simpa using hs.roster (by simp [h]) (by simp [h])

/-- A change between two silent states, or from one to the states before it: the notices, the life cycle and a dropped report. -/
theorem BlocksKept.of_silentMove {s t : State} (hs : s.life.state.transmits = false) (ht : t.life.state.transmits = false)
    (hr : t.reference = s.reference) (hp : t.claims.runPermit = s.claims.runPermit) (hv : t.claims.view = s.claims.view)
    (hf : t.follower = { s.follower with held := none }) (ho : t.roster = s.roster) : BlocksKept s t := by
  have hm : s.life.state ≠ .member ∧ s.life.state ≠ .joining ∧ s.life.state ≠ .leaving := by
    refine ⟨?_, ?_, ?_⟩ <;> intro h <;> simp [h, StationState.transmits] at hs
  have hm' : t.life.state ≠ .member := by intro h; simp [h, StationState.transmits] at ht
  exact {
    permit := fun h => (permitOk_outside hm').2 (hp ▸ (permitOk_outside hm.1).1 h)
    reference := fun h => by rw [ReferenceOk, hr]; exact ⟨fun _ => h.1 hm.1, fun _ => h.2 hm.2.1⟩
    outside := fun h => by
      refine ⟨fun _ => hv ▸ h.view hm.1, fun _ => ?_, fun _ _ => ho ▸ h.roster hm.1 hm.2.2⟩
      rw [hf]
      exact congrArg (fun f => { f with held := none }) (h.follower hm.1) }

theorem State.stopListening_life (s : State) (notice : Option OwnNotice) :
    (s.stopListening notice).life = { s.life with state := .idle, listenTimer := none } := by
  simp [State.stopListening]

theorem BlocksKept.stopListening {s : State} (notice : Option OwnNotice) (h : s.life.state = .listening) :
    BlocksKept s (s.stopListening notice) := by
  refine .of_silentMove (by simp [h, StationState.transmits]) (by simp [State.stopListening_life, StationState.transmits]) ?_ ?_ ?_ ?_ ?_
  all_goals simp [State.stopListening]

theorem State.goSilent_state (s : State) (next : StationState) (isolation : Option IsolationCause) (notice : Option OwnNotice) :
    (s.goSilent next isolation notice).life.state = next := by
  rw [State.goSilent_eq]

theorem BlocksKept.goSilent (s : State) {next : StationState} (isolation : Option IsolationCause) (notice : Option OwnNotice)
    (h : next ≠ .member) : BlocksKept s (s.goSilent next isolation notice) :=
  .of_silent (State.goSilent_exit ..) (by rwa [State.goSilent_state])

theorem BlocksKept.takeOwnNumber (s : State) (f : Frame) : BlocksKept s (s.takeOwnNumber f) := by
  unfold State.takeOwnNumber
  cases h : s.life.state with
  | listening => exact .stopListening _ h
  | joining => exact .goSilent s _ _ (by decide)
  | leaving => exact .goSilent s _ _ (by decide)
  | member => exact .goSilent s _ _ (by decide)
  | unconfigured => exact .refl s
  | idle => exact .refl s
  | isolated => exact .refl s

/-- The change from LISTENING to JOINING (R94). -/
theorem BlocksKept.startJoining {s : State} (f : Frame) (endTime bytes : Nat) (h : s.life.state = .listening) :
    BlocksKept s (s.startJoining f endTime bytes) where
  permit hs := by
    rw [permitOk_outside (by simp [State.startJoining])]
    simpa [State.startJoining] using (permitOk_outside (by simp [h])).1 hs
  reference _ := by simp [ReferenceOk, State.startJoining, State.clearReference]
  outside hs := by
    refine ⟨fun _ => ?_, fun _ => ?_, fun _ _ => ?_⟩
    · simpa [State.startJoining] using hs.view (by simp [h])
    · exact congrArg (fun f => { f with held := none }) (hs.follower (by simp [h]))
    · simpa [State.startJoining] using hs.roster (by simp [h]) (by simp [h])

theorem State.reportMismatch_state (s : State) (f : Frame) : (s.reportMismatch f).life.state = s.life.state := by
  unfold State.reportMismatch; split <;> simp

theorem BlocksKept.takeListening {s : State} (f : Frame) (endTime bytes : Nat) (h : s.life.state = .listening) :
    BlocksKept s (s.takeListening f endTime bytes) := by
  unfold State.takeListening
  refine .ite (fun _ => .ite (fun _ => ?_) (fun _ => ?_)) (fun _ => .ite (fun _ => ?_) (fun _ => .refl s))
  · exact (BlocksKept.startJoining f endTime bytes h).trans (.takeMemberFrame f (by simp [State.startJoining]))
  · apply BlocksKept.of_unmoved <;> simp [State.reportMismatch_state, State.restartWindow]
  · apply BlocksKept.of_unmoved <;> simp [State.restartWindow]

/-- Does the station keep a roster: MEMBER or LEAVING (R70)? -/
def State.keepsRoster (s : State) : Prop := s.life.state = .member ∨ s.life.state = .leaving

/-- At a MEMBER or a LEAVING station the roster may move. -/
theorem BlocksKept.of_rosterMove {s t : State} (h : s.keepsRoster) (hl : t.life.state = s.life.state) (hr : t.reference = s.reference)
    (hp : t.claims.runPermit = s.claims.runPermit) (hv : t.claims.view = s.claims.view) (hf : t.follower = s.follower) :
    BlocksKept s t where
  permit hs := by simpa [PermitOk, hl, hr, hp] using hs
  reference hs := by simpa [ReferenceOk, hl, hr] using hs
  outside hs := ⟨by simpa [hl, hv] using hs.view, by simpa [hl, hf] using hs.follower, fun hm hl' => by
    rcases h with h | h
    · exact absurd (hl.trans h) hm
    · exact absurd (hl.trans h) hl'⟩

theorem State.removeMember_view (s : State) (k : Station) (reason : RemovalReason) :
    (s.removeMember k reason).claims.view = s.claims.view.set k none := by
  unfold State.removeMember
  extract_lets t₁ t₂ t₃
  have h₃ : t₃.claims.view = s.claims.view.set k none := by simp [t₃, t₂, t₁]
  split <;> simp [h₃]

theorem BlocksKept.removeMember {s : State} (k : Station) (reason : RemovalReason) (h : s.keepsRoster) :
    BlocksKept s (s.removeMember k reason) := by
  obtain h | h := h
  · exact .of_member h (by simp) (.removeMember s k reason)
  · refine .of_leaving h (by simp) (by simp) (MemberKept.removeMember s k reason).permit (by simp) fun hv => ?_
    rw [State.removeMember_view, hv, Vector.set_replicate_self]

theorem BlocksKept.takeCandidate {s : State} (f : Frame) (h : s.keepsRoster) : BlocksKept s (s.takeCandidate f) := by
  obtain h | h := h
  · exact .of_member h (by simp) (.takeCandidate s f)
  · have he : s.takeCandidate f = s.setEntry f.station (candidateEntry f s.roster.entries[f.station]) := by
      simp [State.takeCandidate, h]
    rw [he]
    exact .of_rosterMove (.inr h) rfl rfl rfl rfl rfl

theorem BlocksKept.takeMemberJoining {s : State} (f : Frame) (h : s.keepsRoster) : BlocksKept s (s.takeMemberJoining f) := by
  unfold State.takeMemberJoining
  extract_lets k e t₁ t₂
  refine .ite (fun _ => .of_rosterMove h rfl rfl rfl rfl rfl) fun _ => ?_
  have h₂ : BlocksKept s t₂ := (BlocksKept.removeMember k .restarted h).trans (.of_unmoved rfl rfl rfl rfl rfl rfl)
  exact h₂.trans (.takeCandidate f (by simpa [State.keepsRoster, t₂, t₁] using h))

theorem BlocksKept.hear {s : State} (f : Frame) (ownSlot : Bool) (h : s.keepsRoster) : BlocksKept s (s.hear f ownSlot) := by
  apply BlocksKept.of_rosterMove h <;> simp

/-- A member's frame at a MEMBER or a LEAVING station. -/
theorem BlocksKept.takeFromMember {s : State} (f : Frame) (endTime bytes : Nat) (order : PartOrder) (h : s.keepsRoster) :
    BlocksKept s (s.takeFromMember f endTime bytes order) := by
  unfold State.takeFromMember
  extract_lets k t u
  have ht : BlocksKept s t ∧ t.life.state = s.life.state :=
    ⟨(BlocksKept.realign s k endTime bytes).trans (.hear f true (by simpa [State.keepsRoster] using h)), by simp [t]⟩
  have hu : BlocksKept s u ∧ u.life.state = s.life.state := by
    refine ⟨ht.1.trans ?_, by simp [u, ht.2]⟩
    apply BlocksKept.of_rosterMove (by simpa [State.keepsRoster, ht.2] using h) <;> simp [u]
  refine .ite (fun _ => .ite (fun _ => .refl s) fun _ => ?_) fun _ => .ite (fun _ => .refl s) fun _ => .ite (fun _ => ?_) fun _ =>
    .ite (fun hm => ?_) fun _ => ?_
  · exact .of_rosterMove h rfl rfl rfl rfl rfl
  · exact ht.1.trans (.takeMemberJoining f (by simpa [State.keepsRoster, ht.2] using h))
  · refine hu.1.trans (.of_member hm (by simp [State.takeEvidence]) (.trans (t := u.takeEvidence f) ?_ (.takeParts _ f order)))
    exact .of_reference rfl rfl
  · refine hu.1.trans ?_
    apply BlocksKept.of_unmoved <;> simp

theorem BlocksKept.foreignIsland {s : State} (f : Frame) : BlocksKept s (s.foreignIsland f) := by
  unfold State.foreignIsland
  extract_lets t u
  refine (BlocksKept.raise s .foreignIsland).trans (.ite (fun _ => .refl t) fun _ => ?_)
  exact .of_unmoved rfl rfl rfl rfl rfl rfl

theorem BlocksKept.rejoin (s : State) (notice : Option OwnNotice) : BlocksKept s (s.rejoin notice) :=
  .of_rejoined (State.rejoin_exit s notice)

theorem BlocksKept.islandRule (s : State) (f : Frame) (endTime bytes : Nat) : BlocksKept s (s.islandRule f endTime bytes) := by
  unfold State.islandRule
  refine .ite (fun _ => .foreignIsland f) fun _ => .ite (fun _ => ?_) fun _ => .refl s
  refine ((BlocksKept.slots s _).trans (.rejoin (s.adoptTiming f endTime bytes) none)).trans (.takeMemberFrame f ?_)
  exact (State.rejoin_exit ..).state

/-- A frame from outside the member set at a MEMBER. -/
theorem BlocksKept.takeFromOutside {s : State} (f : Frame) (endTime bytes : Nat) (h : s.life.state = .member) :
    BlocksKept s (s.takeFromOutside f endTime bytes) := by
  have roster {t u : State} (ht : BlocksKept s t ∧ t.life.state = .member) (hu : u.life.state = t.life.state)
      (hr : u.reference = t.reference) (hc : u.claims = t.claims) (hf : u.follower = t.follower) : BlocksKept s u :=
    ht.1.trans (.of_rosterMove (.inl ht.2) hu hr (by rw [hc]) (by rw [hc]) hf)
  have heard (b : Bool) : BlocksKept s (s.hear f b) ∧ (s.hear f b).life.state = .member := ⟨.hear f b (.inl h), by simp [h]⟩
  unfold State.takeFromOutside
  extract_lets k t u
  have hu : BlocksKept s u :=
    .ite (fun _ => (heard _).1) fun _ => roster (heard _) rfl rfl rfl rfl
  refine .ite (fun _ => .ite (fun _ => (heard _).1) fun _ => roster (heard _) rfl rfl rfl rfl) fun _ => .ite (fun _ => ?_) fun _ =>
    hu.trans (.islandRule u f _ _)
  refine .ite (fun _ => ?_) fun _ => .refl s
  have ha : (s.realign k endTime bytes).life.state = .member := by simp [h]
  exact ((BlocksKept.realign s k endTime bytes).trans (.hear f true (.inl ha))).trans (.takeCandidate f (.inl (by simp [h])))

theorem BlocksKept.handOn (s : State) (f : Frame) (endTime bytes : Nat) (order : PartOrder) :
    BlocksKept s (s.handOn f endTime bytes order) := by
  unfold State.handOn
  refine .ite (fun _ => .takeOwnNumber s f) fun _ => ?_
  cases h : s.life.state with
  | unconfigured => exact .refl s
  | idle => exact .refl s
  | isolated => exact .refl s
  | listening => exact .takeListening f endTime bytes h
  | joining =>
    refine .ite (fun _ => ?_) fun _ => .refl s
    exact (BlocksKept.realign s f.station endTime bytes).trans (.takeMemberFrame f (by simp [h]))
  | member => exact .ite (fun _ => .takeFromMember f _ _ order (.inl h)) fun _ => .takeFromOutside f _ _ h
  | leaving => exact .ite (fun _ => .takeFromMember f _ _ order (.inr h)) fun _ => .refl s

theorem BlocksKept.receiveWhole (s : State) (order : PartOrder) : BlocksKept s (s.receiveWhole order) := by
  have taken : BlocksKept s (s.setReceipt none) := .of_unmoved rfl rfl rfl rfl rfl rfl
  unfold State.receiveWhole
  split
  · exact .refl s
  · split
    · exact .refl s
    · refine .ite (fun _ => ?_) fun _ => taken
      split
      · exact taken
      · exact taken.trans (.handOn _ _ _ _ order)

/-! ## The boundary and the own-slot start -/

/-- A change to MEMBER, or a MEMBER's publication: RUN_PERMIT follows the ramp state last published (R67). -/
theorem BlocksKept.of_membership {s t : State} (hm : t.life.state = .member)
    (hp : PermitOk s → t.claims.runPermit = t.reference.lastPublished.running)
    (ho : ReferenceOk s → t.reference.view = LineRecord.reset) : BlocksKept s t where
  permit hs := by simp [PermitOk, hm, hp hs]
  reference hs := ⟨fun ht => absurd hm ht, fun _ => ho hs⟩
  outside _ := ⟨fun ht => absurd hm ht, fun ht => absurd hm ht, fun ht => absurd hm ht⟩

theorem BlocksKept.publish {s : State} (hm : s.life.state = .member) : BlocksKept s s.publish := by
  refine .of_membership (by simp [hm]) (fun _ => s.publish_kept.1) fun hs => ?_
  rw [s.publish_kept.2]
  exact hs.2 (by simp [hm])

theorem BlocksKept.beginCycle (s : State) (t : Timing) : BlocksKept s (s.beginCycle t) where
  permit := id
  reference := id
  outside h := ⟨h.view, h.follower, fun hm hl => by
    show ({ s.roster with heard := 0 } : Roster) = _
    rw [h.roster hm hl]; rfl⟩

theorem LifeCycle.countExclusion_state (l : LifeCycle) : l.countExclusion.state = l.state := by
  unfold LifeCycle.countExclusion
  dsimp only
  split
  · split <;> rfl
  · rfl

theorem BlocksKept.pruneIslands (s : State) : BlocksKept s s.pruneIslands := .of_unmoved rfl rfl rfl rfl rfl rfl

theorem BlocksKept.memberBoundary {s : State} (exclusionFirst : Bool) (h : s.life.state = .member) :
    BlocksKept s (s.memberBoundary exclusionFirst) := by
  unfold State.memberBoundary
  extract_lets t
  have hm : t.life.state = .member := (LifeCycle.countExclusion_state _).trans h
  have ht : BlocksKept s t := .of_member h (hm.trans h.symm) (.of_reference (by simp [t]) rfl)
  exact .ite (fun _ => ht) fun _ => (ht.trans (.publish hm)).trans (.pruneIslands t.publish)

theorem BlocksKept.becomeMember (s : State) (set : StationSet) : BlocksKept s (s.becomeMember set) := by
  rw [State.becomeMember_eq]
  have h := (s.adopted set).publish_kept
  exact .of_membership (by simp [State.adopted]) (fun _ => h.1) fun _ => h.2

theorem BlocksKept.markOwnClaims (s : State) : BlocksKept s s.markOwnClaims := by
  apply BlocksKept.of_unmoved <;> simp [State.markOwnClaims]

theorem BlocksKept.joiningBoundary (s : State) : BlocksKept s s.joiningBoundary := by
  have hd : BlocksKept s (s.removeDue s.slots.cycle).dropReport :=
    .trans (t := s.removeDue s.slots.cycle) (.of_unmoved rfl rfl rfl rfl rfl rfl) (.dropReport _)
  refine hd.trans ?_
  exact .of_unmoved rfl rfl rfl rfl rfl rfl

theorem BlocksKept.departures (l : List Station) {s : State} (h : s.keepsRoster) :
    BlocksKept s (l.foldl State.rosterDeparture s) := by
  induction l generalizing s with
  | nil => exact .refl s
  | cons k l ih =>
    have hk : BlocksKept s (s.rosterDeparture k) := .ite (fun _ => .removeMember k .left h) fun _ => .refl s
    exact hk.trans (ih (by simpa [State.keepsRoster] using h))

theorem BlocksKept.leavingBoundary {s : State} (h : s.life.state = .leaving) : BlocksKept s s.leavingBoundary := by
  have hs : BlocksKept s (s.supersedeCommits s.slots.cycle) := by apply BlocksKept.of_unmoved <;> simp
  exact hs.trans (.departures _ (.inr (by simp [h])))

theorem BlocksKept.boundaryWork (s : State) (exclusionFirst : Bool) : BlocksKept s (s.boundaryWork exclusionFirst) := by
  unfold State.boundaryWork
  cases h : s.life.state with
  | member => exact .memberBoundary exclusionFirst h
  | joining =>
    refine (BlocksKept.markOwnClaims s).trans ?_
    dsimp only
    split
    · exact .becomeMember _ _
    · exact .joiningBoundary _
  | leaving => exact (BlocksKept.markOwnClaims s).trans (.leavingBoundary h)
  | unconfigured => exact .refl s
  | idle => exact .refl s
  | listening => exact .refl s
  | isolated => exact .refl s

theorem BlocksKept.takeBoundary (s : State) (exclusionFirst : Bool) : BlocksKept s (s.takeBoundary exclusionFirst) := by
  unfold State.takeBoundary
  split
  · exact .refl s
  · exact (BlocksKept.beginCycle s _).trans (.boundaryWork _ exclusionFirst)

@[simp] theorem State.slotStartWork_state (s : State) : s.slotStartWork.life.state = s.life.state := by
  have lifeSlot (t : State) : t.lifeSlot.life.state = t.life.state := by
    unfold State.lifeSlot; split <;> simp [*]
  simp [State.slotStartWork, lifeSlot]

theorem BlocksKept.slotStartWork (s : State) : BlocksKept s s.slotStartWork := by
  apply BlocksKept.of_unmoved <;> simp

theorem BlocksKept.takeSlotStart (s : State) : BlocksKept s s.takeSlotStart := by
  unfold State.takeSlotStart
  split
  · exact .refl s
  · exact .ite (fun _ => (BlocksKept.slots s _).trans (.slotStartWork _)) fun _ => .refl s

/-- The founding of a line (R95): RUN_PERMIT is deasserted from before, and STOPPED is the ramp state last published. -/
theorem BlocksKept.foundLine {s : State} (h : s.life.state = .listening) : BlocksKept s s.foundLine := by
  refine .of_membership (by simp [State.foundLine, LifeCycle.clearEvidence]) (fun hs => ?_) fun _ => rfl
  have hp : s.claims.runPermit = false := (permitOk_outside (by simp [h])).1 hs
  simpa [State.foundLine, RampState.running] using hp

theorem BlocksKept.expireWindow (s : State) : BlocksKept s s.expireWindow :=
  .ite (fun h => (BlocksKept.foundLine h).trans (.slotStartWork _)) fun _ => .refl s

/-! ## Limits, requests and resets -/

theorem BlocksKept.takeMissedLimit {s : State} (k : Station) (h : s.keepsRoster) : BlocksKept s (s.takeMissedLimit k) :=
  .ite (fun _ => .removeMember k .missed h) fun _ => .of_rosterMove h rfl rfl rfl rfl rfl

theorem BlocksKept.missedLimitEvent (s : State) (k : Station) : BlocksKept s (s.missedLimitEvent k) := by
  refine .ite (fun h => .takeMissedLimit k ?_) fun _ => .refl s
  simp only [State.countsMissed, Bool.and_eq_true, Bool.or_eq_true, beq_iff_eq] at h
  exact h.1

theorem BlocksKept.takeSilent (s : State) : BlocksKept s s.takeSilent := by
  refine .ite (fun _ => .trans ?_ (.raise _ _)) fun _ => .refl s
  exact .of_unmoved rfl rfl rfl rfl rfl rfl

theorem BlocksKept.expireQuiet (s : State) : BlocksKept s s.expireQuiet := by
  refine .ite (fun _ => .trans (.of_silent (s.goSilentAtBoundary_exit .listening) ?_) ?_) fun _ => .refl s
  · rw [State.goSilentAtBoundary_eq]; simp
  · exact .of_unmoved rfl rfl rfl rfl rfl rfl

theorem BlocksKept.configure (s : State) (r : ConfigRecord) : BlocksKept s (s.configure r).1 := by
  unfold State.configure
  split
  · split
    · exact .refl s
    · have hl : (s.acceptRecord r).life.state = .idle := by simp [State.acceptRecord]
      refine .of_silentMove (by simp [*, StationState.transmits]) (by simp [hl, StationState.transmits]) ?_ ?_ ?_ ?_ ?_
      all_goals simp [State.acceptRecord]
  · exact .refl s

theorem BlocksKept.join (s : State) : BlocksKept s s.join.1 := by
  unfold State.join
  split
  next h =>
    have hs : s.life.state.transmits = false := by rcases h with h | h <;> simp [h, StationState.transmits]
    exact .of_silentMove hs rfl rfl rfl rfl rfl rfl
  · exact .refl s

theorem BlocksKept.startLeaving (s : State) : BlocksKept s s.startLeaving where
  permit _ := by simp [PermitOk, State.startLeaving, LifeCycle.clearEvidence]; rfl
  reference _ := by
    constructor <;> intro _ <;> simp [State.startLeaving] <;> rfl
  outside _ := by
    constructor <;> simp [State.startLeaving, LifeCycle.clearEvidence] <;> rfl

theorem BlocksKept.leave (s : State) : BlocksKept s s.leave.1 := by
  unfold State.leave
  cases h : s.life.state with
  | listening => exact .stopListening none h
  | joining => exact .goSilent s _ _ (by decide)
  | member =>
    dsimp only
    split
    · exact .startLeaving s
    · exact .refl s
  | unconfigured => exact .refl s
  | idle => exact .refl s
  | leaving => exact .refl s
  | isolated => exact .refl s

theorem BlocksKept.takeClearStop (s : State) : BlocksKept s s.takeClearStop.1 := by
  have h : s.takeClearStop.1.claims.runPermit = s.claims.runPermit ∧ s.takeClearStop.1.claims.view = s.claims.view := by
    unfold State.takeClearStop; split <;> simp
  apply BlocksKept.of_unmoved <;> simp [h]

theorem BlocksKept.enterReset (s : State) (cause : RestartCause) : BlocksKept s (s.enterReset cause) where
  permit _ := rfl
  reference _ := ⟨fun _ => rfl, fun _ => rfl⟩
  outside _ := ⟨fun _ => rfl, fun _ => rfl, fun _ _ => rfl⟩

/-! ## Every step -/

/-- Every operation keeps each of the three invariants on its own, so whatever came before it. -/
theorem BlocksKept.kept (s₀ : State) : Kept (BlocksKept s₀) where
  port _ _ h := h.trans (.of_unmoved rfl rfl rfl rfl rfl rfl)
  reset s cause h := h.trans (.enterReset s cause)
  complete _ _ _ h := h.trans (.of_unmoved rfl rfl rfl rfl rfl rfl)
  recogniseInput _ _ _ _ h := h.trans (by apply BlocksKept.of_unmoved <;> simp)
  beginTransmission _ _ h := h.trans (by apply BlocksKept.of_unmoved <;> simp)
  collide _ _ h := h.trans (by apply BlocksKept.of_unmoved <;> simp)
  isolateOnCollisions s _ h := h.trans (.ite (fun _ => .goSilent s _ _ (by decide)) fun _ => .refl s)
  endTransmission _ _ h := h.trans (by apply BlocksKept.of_unmoved <;> simp)
  receiveWhole s order _ h := h.trans (.receiveWhole s order)
  abandonOnGap _ _ h := h.trans (.of_unmoved rfl rfl rfl rfl rfl rfl)
  abandon _ _ _ h := h.trans (.of_unmoved rfl rfl rfl rfl rfl rfl)
  takeCharacter _ _ _ _ h := h.trans (by apply BlocksKept.of_unmoved <;> simp)
  closeSlot s k _ h := h.trans (.closeSlot s k)
  takeBoundary s exclusionFirst _ h := h.trans (.takeBoundary s exclusionFirst)
  takeSlotStart s _ h := h.trans (.takeSlotStart s)
  expireWindow s _ h := h.trans (.expireWindow s)
  missedLimitEvent s k _ h := h.trans (.missedLimitEvent s k)
  finishLeaving s _ h := h.trans (.ite (fun _ => .goSilent s _ _ (by decide)) fun _ => .refl s)
  removeWithdrawn _ _ h := h.trans (by apply BlocksKept.of_unmoved <;> simp)
  takeLag s _ h := h.trans (.takeLag s)
  takeSilent s _ h := h.trans (.takeSilent s)
  expireOffer _ _ h := h.trans (by apply BlocksKept.of_unmoved <;> simp)
  endGrace _ _ h := h.trans (by apply BlocksKept.of_unmoved <;> simp)
  exclude s _ h := h.trans (.ite (fun _ => .rejoin s _) fun _ => .refl s)
  expireQuiet s _ h := h.trans (.expireQuiet s)
  configure s record _ h := h.trans (.configure s record)
  join s _ h := h.trans (.join s)
  leave s _ h := h.trans (.leave s)
  takeOffer _ _ _ _ h := h.trans (by apply BlocksKept.of_unmoved <;> simp)
  withdrawOffer _ _ h := h.trans (by apply BlocksKept.of_unmoved <;> simp)
  raiseStop s _ h := h.trans (.raise s _)
  clearStop s _ h := h.trans (.takeClearStop s)
  setManualHold _ _ _ h := h.trans (.of_unmoved rfl rfl rfl rfl rfl rfl)
  report s p _ _ h := h.trans (.takeReport s p _)
  answerStatus _ _ h := h.trans (.of_unmoved rfl rfl rfl rfl rfl rfl)
  answerNotice _ _ h := h.trans (by apply BlocksKept.of_unmoved <;> simp)

theorem BlocksKept.step {s t : State} (h : Machine.step s = .next t) : BlocksKept s t :=
  (BlocksKept.kept s).step (fun _ _ h => h.trans (.of_unmoved rfl rfl rfl rfl rfl rfl))
    (fun _ h => h.trans (.of_unmoved rfl rfl rfl rfl rfl rfl)) (.refl s) h

/-- Settles O57, by the induction over a step of what every operation keeps. -/
theorem stepKeepsTheBlocksOutsideMember : Obligations.StepKeepsTheBlocksOutsideMember :=
  ⟨fun _ _ hs h => (BlocksKept.step h).permit hs, fun _ _ hs h => (BlocksKept.step h).reference hs,
    fun _ _ hs h => (BlocksKept.step h).outside hs⟩

end Sys2Proof.Machine
end

section
/-! PROOFS. The line reference (Chapter 1): the four steps of a boundary and their order, the due commits, the snap and the
digest comparison. -/

namespace Sys2Proof.Machine
open Sys2Proof

/-! ## Speeds -/

/-- On the way up the speed gains the ramp step, and stops at the target. -/
theorem rampSpeed_up {a s t : Speed} (h : s.toNat ≤ t.toNat) : (rampSpeed a s t).toNat = min (s.toNat + a.toNat) t.toNat := by
  have ht := t.isLt
  unfold rampSpeed
  split <;> rw [BitVec.toNat_ofNat, Nat.mod_eq_of_lt] <;> omega

/-- On the way down the speed loses the ramp step, and stops at the target. -/
theorem rampSpeed_down {a s t : Speed} (h : t.toNat ≤ s.toNat) : (rampSpeed a s t).toNat = max (s.toNat - a.toNat) t.toNat := by
  have hs := s.isLt
  have ht := t.isLt
  unfold rampSpeed
  split <;> rw [BitVec.toNat_ofNat, Nat.mod_eq_of_lt] <;> omega

/-- The stop step takes its amount off the speed, down to 0. -/
theorem stopSpeed_toNat (d s : Speed) : (stopSpeed d s).toNat = s.toNat - d.toNat := by
  have hs := s.isLt
  rw [stopSpeed, BitVec.toNat_ofNat, Nat.mod_eq_of_lt]
  omega

theorem stopSpeed_eq_zero (d s : Speed) : stopSpeed d s = 0 ↔ s.toNat ≤ d.toNat := by
  rw [← BitVec.toNat_inj, stopSpeed_toNat]
  exact Nat.sub_eq_zero_iff_le

theorem RampState.running_iff (x : RampState) : x.running = true ↔ x ≠ .stopped := by cases x <;> decide

theorem RampState.not_free_iff (x : RampState) : x.free = false ↔ x = .stopped ∨ x = .stopping := by cases x <;> decide

/-! ## The advance (Table 1-3) -/

section
variable {a d : Speed} {new : Cycle} {r : LineRecord}

theorem advance_stopped (h : r.ramp = .stopped) : advance a d new r = { r with p := r.p + r.s.setWidth 32, s := 0 } := by
  simp [advance, h]

theorem advance_ramping (h : r.ramp = .ramping) : advance a d new r = { r with
    p := r.p + r.s.setWidth 32, s := rampSpeed a r.s r.t, ramp := rampOrSteady (rampSpeed a r.s r.t) r.t } := by
  simp [advance, h]

theorem advance_constant (h : r.ramp = .steady ∨ r.ramp = .held) : advance a d new r = { r with p := r.p + r.s.setWidth 32 } := by
  rcases h with h | h <;> simp [advance, h]

/-- The last advance of a stop. -/
theorem advance_halts (h : r.ramp = .stopping) (hs : r.s.toNat ≤ d.toNat) : advance a d new r =
    { r with p := r.p + r.s.setWidth 32, s := 0, t := 0, ramp := .stopped, stoppedSince := new } := by
  simp [advance, h, (stopSpeed_eq_zero d r.s).2 hs]

theorem advance_stopping (h : r.ramp = .stopping) (hs : d.toNat < r.s.toNat) :
    advance a d new r = { r with p := r.p + r.s.setWidth 32, s := stopSpeed d r.s } := by
  have hz : ¬ stopSpeed d r.s = 0 := fun hz => absurd ((stopSpeed_eq_zero d r.s).1 hz) (by omega)
  simp only [advance, h, if_neg hz]

end

/-! ## The stop step, the commits and the hold step (R8, R10 to R13) -/

theorem stopStep_eq (effective : Bool) (r : LineRecord) : stopStep effective r =
    if effective = true ∧ r.ramp ≠ .stopped then { r with ramp := .stopping, t := 0 } else r := by
  simp [stopStep, RampState.running_iff]

theorem commitStep_start (effective : Bool) (target : Speed) (r : LineRecord) : commitStep effective .start target r =
    if r.ramp = .stopped ∧ effective = false then { r with ramp := .ramping, s := 0, t := target, p := 0, epoch := r.epoch + 1 }
    else r := by
  simp [commitStep, commitApplies]

theorem commitStep_rampTo (effective : Bool) (target : Speed) (r : LineRecord) : commitStep effective .rampTo target r =
    if r.ramp.free = true then
      { r with t := target, epoch := r.epoch + 1, ramp := if r.ramp = .held then .held else rampOrSteady r.s target }
    else r := by
  by_cases h : r.ramp.free = true <;> simp [commitStep, commitApplies, h]

theorem holdStep_unheld (hold : Bool) {r : LineRecord} (h : r.ramp = .stopped ∨ r.ramp = .stopping) : holdStep hold r = r := by
  simp [holdStep, (RampState.not_free_iff _).2 h]

theorem holdStep_true {r : LineRecord} (h : r.ramp.free = true) : holdStep true r = { r with ramp := .held } := by
  simp [holdStep, h]

theorem holdStep_false (r : LineRecord) :
    holdStep false r = if r.ramp = .held then { r with ramp := rampOrSteady r.s r.t } else r := by
  by_cases h : r.ramp = .held <;> simp [holdStep, h, RampState.free]

theorem LineRecord.ramp_self {r : LineRecord} {x : RampState} (h : r.ramp = x) : { r with ramp := x } = r := by
  subst h; rfl

/-- The advance by ramp state. -/
theorem advance_table (a d : Speed) (new : Cycle) (r : LineRecord) :
    let x := advance a d new r
    x.p = r.p + r.s.setWidth 32 ∧ x.epoch = r.epoch ∧ (r.ramp ≠ .stopping → x.stoppedSince = r.stoppedSince ∧ x.t = r.t) ∧
      (r.ramp = .stopped → x.s = 0 ∧ x.ramp = .stopped) ∧
      (r.ramp = .steady ∨ r.ramp = .held → x.s = r.s ∧ x.ramp = r.ramp) ∧
      (r.ramp = .ramping → x.ramp = (if x.s = r.t then .steady else .ramping) ∧
        (r.s.toNat ≤ r.t.toNat → x.s.toNat = min (r.s.toNat + a.toNat) r.t.toNat) ∧
        (r.t.toNat ≤ r.s.toNat → x.s.toNat = max (r.s.toNat - a.toNat) r.t.toNat)) ∧
      (r.ramp = .stopping → x.s.toNat = r.s.toNat - d.toNat ∧
        (r.s.toNat ≤ d.toNat → x.ramp = .stopped ∧ x.t = 0 ∧ x.stoppedSince = new) ∧
        (d.toNat < r.s.toNat → x.ramp = .stopping ∧ x.t = r.t ∧ x.stoppedSince = r.stoppedSince)) := by
  cases h : r.ramp with
  | stopped => simp [advance_stopped h, h]
  | ramping =>
    dsimp only
    rw [advance_ramping h]
    exact ⟨rfl, rfl, fun _ => ⟨rfl, rfl⟩, nofun, by simp, fun _ => ⟨rfl, rampSpeed_up, rampSpeed_down⟩, nofun⟩
  | steady => simp [advance_constant (.inl h), h]
  | held => simp [advance_constant (.inr h), h]
  | stopping =>
    rcases Nat.lt_or_ge d.toNat r.s.toNat with hd | hd
    · simp [advance_stopping h hd, h, stopSpeed_toNat, hd]
    · simp [advance_halts h hd, hd, Nat.not_lt.2 hd]

/-- Settles O29, from the equation of each step. -/
theorem theFourStepsFollowTheirTables : Obligations.TheFourStepsFollowTheirTables := by
  refine ⟨advance_table, fun r target => ⟨fun e => stopStep_eq e r, fun e => commitStep_start e target r, fun e => ⟨?_, ?_, ?_⟩,
    fun h hold => holdStep_unheld hold h, ?_, ?_⟩⟩
  · intro h
    simp [commitStep_rampTo, (RampState.not_free_iff _).2 h]
  · intro h
    simp [commitStep_rampTo, h, RampState.free]
  · rintro (h | h) <;> simp [commitStep_rampTo, h, RampState.free, rampOrSteady]
  · rintro (h | h) <;> simp [holdStep_true, holdStep_false, h, RampState.free]
  · intro h
    rw [holdStep_true (by simp [h, RampState.free]), holdStep_false, LineRecord.ramp_self h]
    simp [h, rampOrSteady]

/-! ## The commits in their order (R10) -/

/-- The record that due commits leave, one after another. -/
def commitsOn (effective : Bool) (due : List DueCommit) (r : LineRecord) : LineRecord :=
  due.foldl (fun x c => commitStep effective c.kind c.target x) r

theorem commitSteps_record (effective : Bool) (due : List DueCommit) (r : LineRecord) :
    (commitSteps effective due r).1 = commitsOn effective due r := by
  induction due generalizing r with
  | nil => rfl
  | cons c rest ih => exact ih _

@[simp] theorem commitSteps_commits (effective : Bool) (due : List DueCommit) (r : LineRecord) :
    (commitSteps effective due r).2.map (·.1) = due := by
  induction due generalizing r with
  | nil => rfl
  | cons c rest ih => exact congrArg (c :: ·) (ih _)

@[simp] theorem commitSteps_length (effective : Bool) (due : List DueCommit) (r : LineRecord) :
    (commitSteps effective due r).2.length = due.length := by
  rw [← List.length_map (·.1), commitSteps_commits]

/-- Each commit is taken on the record that the commits before it leave. -/
theorem commitSteps_append (effective : Bool) (before after : List DueCommit) (r : LineRecord) :
    (commitSteps effective (before ++ after) r).2 =
      (commitSteps effective before r).2 ++ (commitSteps effective after (commitsOn effective before r)).2 := by
  induction before generalizing r with
  | nil => rfl
  | cons c rest ih => exact congrArg ((c, commitApplies effective c.kind r) :: ·) (ih _)

theorem bringForward_eq (a d : Speed) (new : Cycle) (stop hold : Bool) (due : List DueCommit) (r : LineRecord) :
    bringForward a d new stop hold due r =
      (holdStep hold (commitsOn stop due (stopStep stop (advance a d new r))),
        (commitSteps stop due (stopStep stop (advance a d new r))).2) := by
  rw [← commitSteps_record]; rfl

/-- A commit's outcome stands at the commit's place, and is the one of the record before it. -/
theorem commitSteps_outcome (effective : Bool) (before : List DueCommit) (c : DueCommit) (after : List DueCommit) (r : LineRecord) :
    (commitSteps effective (before ++ c :: after) r).2 = (commitSteps effective before r).2 ++
      (c, commitApplies effective c.kind (commitsOn effective before r)) ::
        (commitSteps effective (before ++ c :: after) r).2.drop (before.length + 1) := by
  rw [commitSteps_append, ← commitSteps_length effective before r, ← List.drop_drop, List.drop_left]
  rfl

/-! ## The commit that a publication carries (R14) -/

theorem mem_appliedKinds {outcomes : List (DueCommit × Bool)} {kind : OfferKind} :
    kind ∈ (outcomes.filter (·.2)).map (·.1.kind) ↔ ∃ x ∈ outcomes, x.2 = true ∧ x.1.kind = kind := by
  simp [and_assoc]

theorem publishedCommit_start {outcomes : List (DueCommit × Bool)} (h : ∃ x ∈ outcomes, x.2 = true ∧ x.1.kind = .start) :
    publishedCommit outcomes = some .start :=
  if_pos (mem_appliedKinds.2 h)

/-- Without a START applied the publication carries the last applied commit, a RAMP_TO. -/
theorem publishedCommit_rampTo {outcomes : List (DueCommit × Bool)} (hs : ¬ ∃ x ∈ outcomes, x.2 = true ∧ x.1.kind = .start)
    (h : ∃ x ∈ outcomes, x.2 = true ∧ x.1.kind = .rampTo) : publishedCommit outcomes = some .rampTo := by
  rw [← mem_appliedKinds] at hs h
  have hl := List.getLast?_eq_some_getLast (List.ne_nil_of_mem h)
  have hk : ∀ kind ∈ (outcomes.filter (·.2)).map (·.1.kind), kind = .rampTo := by
    rintro (_ | _) hm
    · exact absurd hm hs
    · rfl
  exact (if_neg hs).trans (hl.trans (congrArg some (hk _ (List.getLast_mem _))))

theorem publishedCommit_none {outcomes : List (DueCommit × Bool)} (hs : ¬ ∃ x ∈ outcomes, x.2 = true ∧ x.1.kind = .start)
    (h : ¬ ∃ x ∈ outcomes, x.2 = true ∧ x.1.kind = .rampTo) : publishedCommit outcomes = none := by
  rw [← mem_appliedKinds] at hs h
  have hl : (outcomes.filter (·.2)).map (·.1.kind) = [] := by
    refine List.eq_nil_iff_forall_not_mem.2 ?_
    rintro (_ | _)
    · exact hs
    · exact h
  exact (if_neg hs).trans (by rw [hl]; rfl)

/-! ## The relations of R3 -/

section
variable {smax : Nat} {r : LineRecord}

/-- A ramp's next speed lies between the speed and the target. -/
theorem RecordOk.advance (h : RecordOk smax r) (a d : Speed) (new : Cycle) : RecordOk smax (advance a d new r) := by
  obtain ⟨hs, hst, hr, hsteady, hstopping⟩ := h
  cases hx : r.ramp with
  | stopped =>
    rw [advance_stopped hx]
    exact ⟨by simp, fun _ => ⟨rfl, (hst hx).2⟩, by simp [hx, RampState.free], by simp [hx], by simp [hx]⟩
  | ramping =>
    rw [advance_ramping hx]
    have ht := hr (by simp [hx, RampState.free])
    have hb : (rampSpeed a r.s r.t).toNat ≤ smax := by
      rcases Nat.le_total r.s.toNat r.t.toNat with hle | hle
      · rw [rampSpeed_up hle]; omega
      · rw [rampSpeed_down hle]; omega
    by_cases he : rampSpeed a r.s r.t = r.t <;> refine ⟨hb, ?_, ?_, ?_, ?_⟩ <;> simp [rampOrSteady, he, ht]
  | steady => rw [advance_constant (.inl hx)]; exact ⟨hs, hst, hr, hsteady, hstopping⟩
  | held => rw [advance_constant (.inr hx)]; exact ⟨hs, hst, hr, hsteady, hstopping⟩
  | stopping =>
    rcases Nat.lt_or_ge d.toNat r.s.toNat with hd | hd
    · rw [advance_stopping hx hd]
      exact ⟨by simp only [stopSpeed_toNat]; omega, by simp [hx], by simp [hx, RampState.free], by simp [hx], hstopping⟩
    · rw [advance_halts hx hd]
      exact ⟨by simp, by simp, by simp [RampState.free], by simp, by simp⟩

theorem RecordOk.stopStep (h : RecordOk smax r) (effective : Bool) : RecordOk smax (stopStep effective r) := by
  rw [stopStep_eq]
  split
  · exact ⟨h.speed, by simp, by simp [RampState.free], by simp, by simp⟩
  · exact h

/-- A running ramp state by its speed and its target keeps the relations. -/
theorem RecordOk.rampOrSteady {x : LineRecord} (hs : x.s.toNat ≤ smax) (ht : 1 ≤ x.t.toNat ∧ x.t.toNat ≤ smax)
    (hx : x.ramp = .held ∨ x.ramp = rampOrSteady x.s x.t ∨ x.ramp = .ramping) : RecordOk smax x := by
  have hf : x.ramp = .held ∨ x.ramp = .ramping ∨ (x.ramp = .steady ∧ x.s = x.t) := by
    rcases hx with hx | hx | hx
    · exact .inl hx
    · by_cases he : x.s = x.t
      · exact .inr (.inr ⟨by rw [hx, Machine.rampOrSteady, if_pos he], he⟩)
      · exact .inr (.inl (by rw [hx, Machine.rampOrSteady, if_neg he]))
    · exact .inr (.inl hx)
  rcases hf with hf | hf | ⟨hf, he⟩ <;> refine ⟨hs, ?_, fun _ => ht, ?_, ?_⟩ <;> simp [hf]
  exact he

theorem RecordOk.commitStep (h : RecordOk smax r) (effective : Bool) (kind : OfferKind) {target : Speed}
    (ht : 1 ≤ target.toNat ∧ target.toNat ≤ smax) : RecordOk smax (commitStep effective kind target r) := by
  cases kind with
  | start =>
    rw [commitStep_start]
    split
    · exact .rampOrSteady (by simp) ht (.inr (.inr rfl))
    · exact h
  | rampTo =>
    rw [commitStep_rampTo]
    split
    · refine .rampOrSteady h.speed ht ?_
      by_cases hh : r.ramp = .held
      · exact .inl (if_pos hh)
      · exact .inr (.inl (if_neg hh))
    · exact h

theorem RecordOk.commitsOn (effective : Bool) {due : List DueCommit} (hd : ∀ c ∈ due, 1 ≤ c.target.toNat ∧ c.target.toNat ≤ smax)
    (h : RecordOk smax r) : RecordOk smax (commitsOn effective due r) := by
  induction due generalizing r with
  | nil => exact h
  | cons c rest ih =>
    exact ih (fun x hx => hd x (List.mem_cons_of_mem _ hx)) (h.commitStep effective c.kind (hd c List.mem_cons_self))

theorem RecordOk.holdStep (h : RecordOk smax r) (hold : Bool) : RecordOk smax (holdStep hold r) := by
  cases hf : r.ramp.free with
  | false => rw [holdStep_unheld _ ((RampState.not_free_iff _).1 hf)]; exact h
  | true =>
    have ht := h.running hf
    cases hold with
    | true => rw [holdStep_true hf]; exact .rampOrSteady h.speed ht (.inl rfl)
    | false =>
      rw [holdStep_false]
      split
      · exact .rampOrSteady h.speed ht (.inr (.inl rfl))
      · exact h

end

/-- Settles O30, by induction on the due commits. -/
theorem fourStepsComeInOrderAndKeepTheRelations : Obligations.FourStepsComeInOrderAndKeepTheRelations := by
  refine ⟨fun a d new stop hold due r => ?_, fun outcomes => ⟨publishedCommit_start, publishedCommit_rampTo, publishedCommit_none⟩,
    fun smax a d new stop hold due r h hd => ?_⟩
  · rw [bringForward_eq]
    refine ⟨rfl, commitSteps_commits _ _ _, ?_⟩
    rintro before c after rfl
    refine ⟨_, _, commitSteps_outcome .., commitSteps_length .., fun hk => ?_, fun hk => ?_⟩
    · rw [hk, Bool.eq_iff_iff]; simp [commitApplies, commitsOn]
    · rw [hk]; rfl
  · rw [bringForward_eq]
    exact (((h.advance a d new).stopStep stop).commitsOn stop hd).holdStep hold

/-! ## The due commits (R10, R22) -/

theorem OwnEntry.dueAt_iff (e : OwnEntry) (new : Cycle) : e.dueAt new = true ↔ ∃ b n, e.phase = .committed b new n := by
  unfold OwnEntry.dueAt
  cases e.phase <;> simp

/-- In a table keyed by origin, two entries of one origin are one. -/
theorem eq_of_origin_eq {entries : List OtherEntry} (h : (entries.map (·.origin)).Nodup) {d e : OtherEntry} (hd : d ∈ entries)
    (he : e ∈ entries) (ho : d.origin = e.origin) : d = e := by
  induction entries with
  | nil => exact nomatch hd
  | cons x xs ih =>
    obtain ⟨hx, hxs⟩ := List.nodup_cons.1 h
    have apart {y : OtherEntry} (hy : y ∈ xs) : x.origin ≠ y.origin := fun heq => hx (List.mem_map.2 ⟨y, hy, heq.symm⟩)
    cases hd with
    | head =>
      cases he with
      | head => rfl
      | tail _ he => exact absurd ho (apart he)
    | tail _ hd =>
      cases he with
      | head => exact absurd ho.symm (apart hd)
      | tail _ he => exact ih hxs hd he

/-- In a table keyed by origin, the entry of an origin is the one with that origin. -/
theorem Agreement.other?_eq_some_iff {g : Agreement} (h : (g.others.map (·.origin)).Nodup) (k : Station) (e : OtherEntry) :
    g.other? k = some e ↔ e ∈ g.others ∧ e.origin = k := by
  rw [Agreement.other?]
  constructor
  · intro he
    exact ⟨List.mem_of_find?_eq_some he, by simpa using List.find?_some he⟩
  · rintro ⟨hm, rfl⟩
    have hs : (g.others.find? fun d => d.origin == e.origin).isSome := List.find?_isSome.2 ⟨e, hm, by simp⟩
    obtain ⟨d, hd⟩ := Option.isSome_iff_exists.1 hs
    have ho : d.origin = e.origin := by simpa using List.find?_some hd
    rw [hd, eq_of_origin_eq h (List.mem_of_find?_eq_some hd) hm ho]

/-- The commit of station k that falls due, if there is one. -/
def State.dueCommitOf (s : State) (new : Cycle) (k : Station) : Option DueCommit :=
  if k = s.own then
    (s.agreement.own.filter (·.dueAt new)).map fun e => { origin := k, kind := e.kind, target := e.target }
  else
    ((s.agreement.other? k).filter (·.effective == some new)).map fun e => { origin := k, kind := e.kind, target := e.target }

theorem State.dueCommits_eq (s : State) (new : Cycle) : s.dueCommits new = allStations.filterMap (s.dueCommitOf new) := rfl

theorem State.dueCommitOf_origin {s : State} {new : Cycle} {k : Station} {c : DueCommit} (h : s.dueCommitOf new k = some c) :
    c.origin = k := by
  unfold State.dueCommitOf at h
  split at h <;>
  · obtain ⟨e, _, rfl⟩ := Option.map_eq_some_iff.1 h
    rfl

theorem State.dueCommits_ascend (s : State) (new : Cycle) : (s.dueCommits new).Pairwise (fun a b => a.origin < b.origin) := by
  rw [State.dueCommits_eq, List.pairwise_filterMap]
  refine (List.pairwise_lt_finRange 16).imp fun {i j} hij a ha b hb => ?_
  rw [State.dueCommitOf_origin ha, State.dueCommitOf_origin hb]
  exact hij

/-- Settles O31, from the commit of each station. -/
theorem dueCommitsAscendByOrigin : Obligations.DueCommitsAscendByOrigin := by
  intro s new ha
  refine ⟨s.dueCommits_ascend new, fun c => ?_⟩
  have hmem : c ∈ s.dueCommits new ↔ ∃ k, s.dueCommitOf new k = some c := by
    simp [State.dueCommits_eq, mem_allStations]
  rw [hmem]
  constructor
  · rintro ⟨k, hk⟩
    unfold State.dueCommitOf at hk
    split at hk
    next ho =>
      obtain ⟨e, he, rfl⟩ := Option.map_eq_some_iff.1 hk
      obtain ⟨he, hd⟩ := Option.filter_eq_some_iff.1 he
      obtain ⟨b, n, hp⟩ := (e.dueAt_iff new).1 hd
      exact .inl ⟨e, b, n, he, hp, by rw [ho]⟩
    · obtain ⟨e, he, rfl⟩ := Option.map_eq_some_iff.1 hk
      obtain ⟨he, hd⟩ := Option.filter_eq_some_iff.1 he
      obtain ⟨hm, rfl⟩ := (Agreement.other?_eq_some_iff ha.keyed _ _).1 he
      exact .inr ⟨e, hm, by simpa using hd, rfl⟩
  · rintro (⟨e, b, n, he, hp, rfl⟩ | ⟨e, hm, hd, rfl⟩)
    · refine ⟨s.own, ?_⟩
      have hd : e.dueAt new = true := (e.dueAt_iff new).2 ⟨b, n, hp⟩
      rw [State.dueCommitOf, if_pos rfl, he, Option.filter_some_pos (p := fun d : OwnEntry => d.dueAt new) hd, Option.map_some]
    · refine ⟨e.origin, ?_⟩
      have he : s.agreement.other? e.origin = some e := (Agreement.other?_eq_some_iff ha.keyed _ _).2 ⟨hm, rfl⟩
      rw [State.dueCommitOf, if_neg (ha.apart e hm), he, Option.filter_some_pos (p := fun d : OtherEntry => d.effective == some new) (beq_iff_eq.2 hd), Option.map_some]

/-! ## The reference part of a frame, and the late stop (R16 to R19) -/

theorem compares_iff (own sender : RampState) : compares own sender = true ↔
    (own.free = true ∧ sender.free = true) ∨ (own = .stopped ∧ sender.free = true) ∨ (own.free = true ∧ sender = .stopped) := by
  simp [compares, or_assoc]

/-- Every field of Table 1-5 agrees, or the digests differ. -/
theorem digestDiffers_iff (x : ReferencePart) (frameSet ownSet : StationSet) (r : LineRecord) :
    digestDiffers x frameSet ownSet r = true ↔ ¬ (x.ramp = r.ramp ∧ x.t = r.t ∧ x.s = r.s ∧ x.pLow = r.p.setWidth 16 ∧
      x.epoch = r.epoch ∧ frameSet = ownSet) := by
  simp only [digestDiffers, Bool.not_eq_true', ← Bool.not_eq_true, Bool.and_eq_true, beq_iff_eq, and_assoc]

theorem State.lateStop_free {s : State} (hm : s.life.state = .member) (hf : s.reference.record.ramp.free = true) : s.lateStop =
    { s with reference := { s.reference with record := { s.reference.record with ramp := .stopping, t := 0 } } } :=
  if_pos ⟨hm, hf⟩

theorem State.lateStop_other {s : State} (h : s.life.state ≠ .member ∨ s.reference.record.ramp.free = false) : s.lateStop = s :=
  if_neg fun ⟨hm, hf⟩ => h.elim (fun h => h hm) fun h => by simp [h] at hf

/-- Settles O32, by the two branches of the reference part, the late stop and the snap. -/
theorem referencePartSnapsAndCompares : Obligations.ReferencePartSnapsAndCompares := by
  refine ⟨⟨fun s f => ?_, fun s => ⟨State.lateStop_free, fun h => State.lateStop_other (h.imp id (RampState.not_free_iff _).2)⟩⟩,
    fun f r => ⟨fun h₁ h₂ h₃ => if_pos ⟨h₁, h₂, h₃⟩, fun h => if_neg h⟩⟩
  intro r x both equal mismatch
  have hmis : mismatch ↔ f.state = .member ∧ compares r.ramp x.ramp = true ∧
      digestDiffers x f.members s.memberSet r = true ∧ ¬ s.reference.divergence = true := by
    rw [compares_iff, digestDiffers_iff, Bool.not_eq_true]
  exact ⟨fun h => if_neg (mt hmis.2 h), fun h => if_pos (hmis.1 h)⟩

end Sys2Proof.Machine
end

section
/-! PROOFS. The station right after power-on has every invariant that the steps keep (R88). -/

namespace Sys2Proof.Machine
open Sys2Proof

theorem agreementOk_reset : AgreementOk State.reset where
  keyed := List.nodup_nil
  apart := nofun
  silent _ := ⟨rfl, rfl⟩
  joining _ := rfl
  reset _ := rfl
  single := Nat.zero_le 1

theorem busOk_reset : BusOk State.reset where
  driver := rfl
  level := rfl
  sending := nofun
  assembled := nofun
  collisions := Nat.zero_le _

theorem outsideOk_reset : OutsideOk State.reset where
  view _ := rfl
  follower _ := rfl
  roster _ _ := rfl

theorem frameOk_reset : FrameOk State.reset where
  table := agreementOk_reset
  voters _ _ h := absurd h (by simp [State.reset, Agreement.reset])
  hold _ h := absurd h (by simp [State.reset, ClaimUnit.reset])
  assembled _ h := absurd h (by simp [State.reset])

theorem storeOk_reset : StoreOk State.reset where
  accepted := rfl
  valid := nofun
  reset _ := rfl

/-- Settles O54, invariant by invariant. -/
theorem resetHasTheInvariants : Obligations.ResetHasTheInvariants :=
  ⟨⟨Nat.zero_le _, rfl⟩, ⟨rfl, fun _ => rfl⟩, rfl, ⟨fun _ => rfl, fun _ => rfl⟩, agreementOk_reset, busOk_reset, outsideOk_reset,
    frameOk_reset, storeOk_reset⟩

end Sys2Proof.Machine
end

section
/-! PROOFS. The roster's work at a boundary: removals, admissions and departures, as equations on the blocks they change (R45, R78, R79, R83). -/

namespace Sys2Proof.Machine
open Sys2Proof

/-- A fold whose steps leave the state leaves it. -/
theorem foldl_of_fixed {f : State → Station → State} {s : State} (h : ∀ k, f s k = s) (l : List Station) : l.foldl f s = s := by
  induction l with
  | nil => rfl
  | cons k l ih => rw [List.foldl_cons, h, ih]

/-! ## The table without a removed station (R45) -/

/-- An own entry once station k is removed. -/
def OwnEntry.without (e : OwnEntry) (k : Station) : OwnEntry :=
  match e.phase with
  | .queued => e
  | .offered b => { e with phase := .offered (b.drop k) }
  | .committed _ _ _ => e
  | .withdrawn _ _ _ => e

/-- The proposal table once station k is removed. -/
def Agreement.without (g : Agreement) (k : Station) : Agreement :=
  { g with own := g.own.map (·.without k), others := g.others.filter fun e => e.origin != k }

theorem State.dropOrigin_eq (s : State) (k : Station) : s.dropOrigin k = { s with agreement := s.agreement.without k } := by
  unfold State.dropOrigin
  extract_lets t
  have ht : t = { s with agreement := { s.agreement with others := s.agreement.others.filter fun e => e.origin != k } } := rfl
  have ho : t.agreement.own = s.agreement.own := rfl
  rw [ho]
  cases h : s.agreement.own with
  | none => simp [ht, Agreement.without, h]
  | some e => cases hp : e.phase <;> simp [ht, Agreement.without, OwnEntry.without, State.setOwnEntry, h, hp]

/-- The removal of a station drops its verdict from an OFFERED own entry, and nothing else of the own entry. -/
theorem Agreement.without_own (g : Agreement) (k : Station) : VerdictDropped k g.own (g.without k).own where
  offered e b he hp := ⟨b.drop k, by simp [Agreement.without, OwnEntry.without, he, hp], rfl, rfl, fun j => by simp [Ballot.drop],
    by simp only [Ballot.drop, ne_eq, decide_not]; rfl⟩
  other h := by
    cases he : g.own with
    | none => simp [Agreement.without, he]
    | some e => cases hp : e.phase <;> simp_all [Agreement.without, OwnEntry.without]

/-- The own entry left by a removal is COMMITTED only where it was the same before. -/
theorem OwnEntry.without_committed {e : OwnEntry} {k : Station} {b : Ballot} {c : Cycle} {n : Nat}
    (h : (e.without k).phase = .committed b c n) : e.without k = e := by
  unfold OwnEntry.without at h ⊢
  split at h <;> simp_all

/-! ## A removal (R78) -/

/-- The state once station k is removed: its entry, the notice, the table and the claim view. -/
def State.removed (s : State) (k : Station) (reason : RemovalReason) : State := { s with
  roster := { s.roster with entries := s.roster.entries.set k (removedEntry reason s.roster.entries[k]) }
  agreement := s.agreement.without k
  claims := { s.claims with view := s.claims.view.set k none }
  notices := s.noticesAfter [(.memberRemoved, stationNumber k, reason.code,
    (s.setEntry k (removedEntry reason s.roster.entries[k])).memberSet)] }

theorem State.removeMember_eq (s : State) (k : Station) (reason : RemovalReason) : s.removeMember k reason =
    if s.life.state = .member ∧ s.reference.record.ramp.running then (s.removed k reason).raise .memberLost
    else s.removed k reason := by
  unfold State.removeMember
  extract_lets t₁ t₂ t₃
  have h₃ : t₃ = s.removed k reason := by
    show (State.dropOrigin t₂ k).setRecord k none = _
    rw [State.dropOrigin_eq]; rfl
  rw [h₃]
  rfl

theorem State.removeMember_agreement (s : State) (k : Station) (reason : RemovalReason) :
    (s.removeMember k reason).agreement = s.agreement.without k := by
  rw [State.removeMember_eq]; split <;> simp [State.removed]

/-! ## The roster's work at a publication, on the reference unit and the table -/

/-- With STOPPED as the record's ramp state an admission leaves the record: a late stop finds nothing to stop. -/
theorem State.firstHeardStop_reference {s : State} (k : Station) (r : ClaimRecord) (cause : StopCause) (e : Cycle)
    (h : s.reference.record.ramp = .stopped) : (s.firstHeardStop k r cause e).reference = s.reference := by
  unfold State.firstHeardStop
  extract_lets due heard t
  have ht : t.lateStop = t := State.lateStop_other (.inr ((RampState.not_free_iff _).2 (.inl h)))
  rw [ht, ite_self]
  rfl

theorem State.admitStation_reference {s : State} (k : Station) (late : Bool) (h : s.reference.record.ramp = .stopped) :
    (s.admitStation k late).reference = s.reference := by
  have create (t : State) (stop : Option (StopCause × Cycle)) (hold : Bool) (e : Cycle) (ht : t.reference = s.reference) :
      (t.createRecord k stop hold e).reference = s.reference := by
    unfold State.createRecord
    split
    · exact ht
    · rw [State.firstHeardStop_reference _ _ _ _ (by rw [ht, h]), ht]
  unfold State.admitStation
  extract_lets e t₁ t₂
  split <;> exact create _ _ _ _ rfl

theorem State.rosterPublication_reference {s : State} (k : Station) (h : s.reference.lastPublished = s.reference.record.ramp) :
    (s.rosterPublication k).reference = s.reference := by
  unfold State.rosterPublication
  extract_lets e
  split
  · rfl
  · split
    · simp
    · split
      · split
        next hl => exact State.admitStation_reference k false (h.symm.trans hl)
        · rfl
      · rfl

/-- The roster's work leaves the reference unit as the publication has it. -/
theorem State.rosterFold_reference (l : List Station) {s : State} (h : s.reference.lastPublished = s.reference.record.ramp) :
    (l.foldl State.rosterPublication s).reference = s.reference := by
  induction l generalizing s with
  | nil => rfl
  | cons k l ih =>
    have hk := State.rosterPublication_reference k h
    rw [List.foldl_cons, ih (by rw [hk, h]), hk]

/-- One station's work leaves the table, or takes the station out of it. -/
theorem State.rosterPublication_agreement (s : State) (k : Station) :
    (s.rosterPublication k).agreement = s.agreement ∨ (s.rosterPublication k).agreement = s.agreement.without k := by
  unfold State.rosterPublication
  extract_lets e
  split
  · exact .inl rfl
  · split
    · exact .inr (State.removeMember_agreement ..)
    · split
      · split <;> simp
      · exact .inl rfl

/-- No entry comes into the table by the roster's work, and none is COMMITTED that was not. -/
theorem State.rosterFold_agreement (l : List Station) (s : State) :
    (∀ e ∈ (l.foldl State.rosterPublication s).agreement.others, e ∈ s.agreement.others) ∧
      ∀ e b c n, (l.foldl State.rosterPublication s).agreement.own = some e → e.phase = .committed b c n →
        s.agreement.own = some e := by
  induction l generalizing s with
  | nil => exact ⟨fun _ h => h, fun _ _ _ _ h _ => h⟩
  | cons k l ih =>
    obtain ⟨ihOthers, ihOwn⟩ := ih (s.rosterPublication k)
    rcases s.rosterPublication_agreement k with hk | hk <;> rw [hk] at ihOthers ihOwn
    · exact ⟨ihOthers, ihOwn⟩
    · refine ⟨fun e he => (List.mem_filter.1 (ihOthers e he)).1, fun e b c n he hp => ?_⟩
      obtain ⟨d, hd, rfl⟩ := Option.map_eq_some_iff.1 (ihOwn e b c n he hp)
      rw [OwnEntry.without_committed hp]
      exact hd

/-- The blocks that the roster's work leaves. -/
theorem State.rosterFold_frame (l : List Station) (s : State) :
    (l.foldl State.rosterPublication s).inReset = s.inReset ∧ (l.foldl State.rosterPublication s).bus = s.bus ∧
      (l.foldl State.rosterPublication s).slots = s.slots ∧ (l.foldl State.rosterPublication s).assembled = s.assembled ∧
      (l.foldl State.rosterPublication s).life = s.life ∧ (l.foldl State.rosterPublication s).follower = s.follower ∧
      (l.foldl State.rosterPublication s).port = s.port ∧ (l.foldl State.rosterPublication s).store = s.store ∧
      (l.foldl State.rosterPublication s).pending = s.pending := by
  refine ⟨foldl_field (g := State.inReset) (fun s k => by simp) l s, foldl_field (g := State.bus) (fun s k => by simp) l s,
    foldl_field (g := State.slots) (fun s k => by simp) l s, foldl_field (g := State.assembled) (fun s k => by simp) l s,
    foldl_field (g := State.life) (fun s k => by simp) l s, foldl_field (g := State.follower) (fun s k => by simp) l s,
    foldl_field (g := State.port) (fun s k => by simp) l s, foldl_field (g := State.store) (fun s k => by simp) l s,
    foldl_field (g := State.pending) (fun s k => by simp) l s⟩

end Sys2Proof.Machine
end

section
/-! PROOFS. CYCLE_BOUNDARY at a MEMBER (R4, R14, R98, R131): the state before the publication, the publication, and the roster's work. -/

namespace Sys2Proof.Machine
open Sys2Proof

/-! ## The exclusion count (R98) -/

section
variable {l : LifeCycle}

/-- A second excluding cycle in a row: the count comes to 2, and the evidence stays for EXCLUDED. -/
theorem LifeCycle.countExclusion_second (hm : l.memberHeard = true) (ho : l.ownSeen = false) (he : 1 ≤ l.exclusion) :
    l.countExclusion = { l with exclusion := 2 } := by
  have hc : min (l.exclusion + 1) Config.exclusionLimit = 2 := by simp only [Config.exclusionLimit]; omega
  simp only [LifeCycle.countExclusion, LifeCycle.excluding, hm, ho, hc]
  rfl

theorem LifeCycle.countExclusion_first (hm : l.memberHeard = true) (ho : l.ownSeen = false) (he : l.exclusion = 0) :
    l.countExclusion = { l with exclusion := 1, memberHeard := false, ownSeen := false, firstSet := none } := by
  simp [LifeCycle.countExclusion, LifeCycle.excluding, hm, ho, he, Config.exclusionLimit, LifeCycle.clearEvidence]

theorem LifeCycle.countExclusion_none (h : ¬ (l.memberHeard = true ∧ l.ownSeen = false)) :
    l.countExclusion = { l with exclusion := 0, memberHeard := false, ownSeen := false, firstSet := none } := by
  have hx : l.excluding = false := by simpa [LifeCycle.excluding] using h
  simp [LifeCycle.countExclusion, hx, LifeCycle.clearEvidence]

/-- The count comes to 2 exactly at the second excluding cycle in a row. -/
theorem LifeCycle.countExclusion_eq_two :
    l.countExclusion.exclusion = 2 ↔ (l.memberHeard = true ∧ l.ownSeen = false) ∧ 1 ≤ l.exclusion := by
  by_cases hx : l.memberHeard = true ∧ l.ownSeen = false
  · rcases Nat.eq_zero_or_pos l.exclusion with he | he
    · simp [LifeCycle.countExclusion_first hx.1 hx.2 he, he]
    · simp [LifeCycle.countExclusion_second hx.1 hx.2 he, hx]; omega
  · simp [LifeCycle.countExclusion_none hx, hx]

end

/-! ## The boundary of a MEMBER -/

/-- A MEMBER's state at a boundary before its publication: the new cycle begun, the exclusion counted, the claims marked. -/
def State.counted (s : State) (timing : Timing) : State := { s.beginCycle timing with
  life := s.life.countExclusion
  claims := claimsBoundary (s.slots.cycle + 1) s.claims }

theorem State.takeBoundary_member {s : State} {timing : Timing} (ht : s.slots.timing = some timing) (hm : s.life.state = .member)
    (order : Bool) : s.takeBoundary order =
      if order = true ∧ s.life.countExclusion.exclusion = 2 then s.counted timing
      else (s.counted timing).publish.pruneIslands := by
  have hw : s.takeBoundary order = (s.beginCycle timing).boundaryWork order := by simp only [State.takeBoundary, ht]
  have hl : (s.beginCycle timing).life.state = .member := hm
  rw [hw]
  simp only [State.boundaryWork, hl]
  rfl

theorem State.pruneIslands_eq (s : State) : s.pruneIslands = { s with life := { s.life with
    islandReported := s.life.islandReported &&& setOf fun k => decide (s.roster.entries[k].state = .foreign) } } := rfl

theorem RampState.running_eq (x : RampState) : x.running = decide (x ≠ .stopped) := by cases x <;> decide

theorem State.removeDue_others (s : State) (new : Cycle) :
    (s.removeDue new).agreement.others = s.agreement.others.filter fun e => decide (e.effective ≠ some new) := by
  refine List.filter_congr fun e _ => ?_
  rw [Bool.eq_iff_iff]
  simp

theorem State.removeDue_own_due {s : State} {new : Cycle} {e : OwnEntry} {b : Ballot} {n : Nat} (he : s.agreement.own = some e)
    (hp : e.phase = .committed b new n) : (s.removeDue new).agreement.own = none := by
  simp [State.removeDue, he, (e.dueAt_iff new).2 ⟨b, n, hp⟩]

theorem State.removeDue_own_kept {s : State} {new : Cycle}
    (h : ∀ e b n, s.agreement.own = some e → e.phase ≠ .committed b new n) : (s.removeDue new).agreement.own = s.agreement.own := by
  cases he : s.agreement.own with
  | none => simp [State.removeDue, he]
  | some e =>
    have hd : e.dueAt new = false := by
      rw [← Bool.not_eq_true, OwnEntry.dueAt_iff]
      exact fun ⟨b, n, hp⟩ => h e b n he hp
    simp [State.removeDue, he, hd]

/-- Settles O48, by the equation of a MEMBER's boundary and that of a publication. -/
theorem aBoundaryPublishesAndMovesTheRoster : Obligations.ABoundaryPublishesAndMovesTheRoster := by
  intro s timing hr hm ht new begun claims forward excluding rampNotices commitNotices first
  have hfirst (order : Bool) : first order ↔ order = true ∧ s.life.countExclusion.exclusion = 2 :=
    and_congr_right fun _ => LifeCycle.countExclusion_eq_two.symm
  have hexec (order : Bool) : exec (.cycleBoundary order) s = .next (s.takeBoundary order) := by
    rw [exec_cycleBoundary, outOfReset_free hr]
  refine ⟨fun order hf => ⟨(s.counted timing).published, ?_, ?_, rfl, State.removeDue_others _ _, rfl,
    fun e b n he hp => State.removeDue_own_due he hp, fun h => State.removeDue_own_kept h,
    fun hx he => LifeCycle.countExclusion_second hx.1 hx.2 he, fun hx he => LifeCycle.countExclusion_first hx.1 hx.2 he,
    LifeCycle.countExclusion_none⟩, fun order hf => ?_⟩
  · rw [hexec, State.takeBoundary_member ht hm, if_neg (mt (hfirst order).2 hf), State.publish_eq, State.pruneIslands_eq]
  · have hn : (s.counted timing).published.notices = (s.atCycle new).noticesAfter (rampNotices ++ commitNotices) :=
      State.noticesAfter_congr (s := s.atCycle new) (t := s.counted timing) rfl rfl rfl _
    rw [← hn, ← RampState.running_eq]
    rfl
  · rw [hexec, State.takeBoundary_member ht hm, if_pos ((hfirst order).1 hf), State.counted,
      LifeCycle.countExclusion_second hf.2.1.1 hf.2.1.2 hf.2.2]
    rfl

/-! ## The report-miss count, and the timing of a new cycle -/

/-- A publication that is STOPPED or finds a held report zeroes the report-miss count (R148). -/
theorem missStep_zero {nrep : Nat} {ramp : RampState} {reported : Bool} (count : Nat) (h : ramp = .stopped ∨ reported = true) :
    missStep nrep ramp reported count = (0, false) := by
  rcases h with h | h <;> simp [missStep, h, RampState.running]

theorem missStep_count (nrep : Nat) {ramp : RampState} (count : Nat) (h : ramp ≠ .stopped) :
    missStep nrep ramp false count = (min (count + 1) nrep, decide (min (count + 1) nrep = nrep)) := by
  simp only [missStep, (RampState.running_iff ramp).2 h]
  rfl

theorem State.missAfter_zero {s : State} (h : s.forward.1.ramp = .stopped ∨ s.follower.held.isSome = true) :
    s.missAfter = (0, false) :=
  missStep_zero _ h

theorem State.missAfter_count {s : State} (h : s.forward.1.ramp ≠ .stopped) (hh : s.follower.held = none) : s.missAfter =
    (min (s.port.missCount + 1) s.cfg.reportTimeout.toNat,
      decide (min (s.port.missCount + 1) s.cfg.reportTimeout.toNat = s.cfg.reportTimeout.toNat)) := by
  rw [State.missAfter, hh]
  exact missStep_count _ _ h

/-- A new cycle begins with slot 1 at the end of the old one. -/
theorem Timing.newCycle_slotStart (t : Timing) (slotLength : Nat) (heard : Bool) :
    (t.newCycle slotLength heard).slotStart slotLength 0 = t.cycleEnd slotLength := by
  simp [Timing.slotStart, Timing.newCycle]

/-- Settles O47, from the publication's equation and what the roster's work leaves of it. -/
theorem aMemberBringsTheRecordForward : Obligations.AMemberBringsTheRecordForward := by
  intro s timing hr hm ht new claims forward
  have hexec : exec (.cycleBoundary false) s = .next (s.counted timing).publish.pruneIslands := by
    rw [exec_cycleBoundary, outOfReset_free hr, State.takeBoundary_member ht hm, if_neg (by simp)]
  rw [State.publish_eq] at hexec
  let p := (s.counted timing).published
  obtain ⟨hreset, hbus, hslots, hassembled, hlife, hfollower, hport, hstore, hpending⟩ := State.rosterFold_frame allStations p
  have hpermit := (MemberKept.rosterFold allStations p).permit
  have href := State.rosterFold_reference (s := p) allStations rfl
  obtain ⟨hothers, hown⟩ := State.rosterFold_agreement allStations p
  generalize allStations.foldl State.rosterPublication p = u at *
  have hexclusion : u.pruneIslands.life.exclusion = s.life.countExclusion.exclusion :=
    (congrArg LifeCycle.exclusion hlife : u.life.exclusion = p.life.exclusion)
  have hmiss : (u.port.missCount, u.port.silentDue) = (s.counted timing).missAfter := by rw [hport]; rfl
  refine ⟨u.pruneIslands, hexec, ?_, ?_, ?_, ⟨timing.newCycle s.cfg.slotLength.toNat (contains s.roster.heard 15), ?_, rfl, rfl, rfl,
    timing.newCycle_slotStart _ _⟩, ?_, ?_, ?_, ?_, hfollower, ?_, ?_, ?_, ?_, ?_, ?_, hbus, hassembled, hstore, hreset, hpending⟩
  · exact (congrArg LifeCycle.state hlife).trans ((LifeCycle.countExclusion_state _).trans hm)
  · exact congrArg SlotTimer.cycle hslots
  · exact (congrArg SlotTimer.now hslots : u.slots.now = p.slots.now)
  · exact congrArg SlotTimer.timing hslots
  · exact congrArg ReferenceUnit.record href
  · exact congrArg ReferenceUnit.lastPublished href
  · exact congrArg ReferenceUnit.divergence href
  · rw [← RampState.running_eq]; exact hpermit
  · intro h
    exact Prod.mk.inj (hmiss.trans (State.missAfter_zero h))
  · intro hramp hheld
    obtain ⟨hc, hs⟩ := Prod.mk.inj (hmiss.trans (State.missAfter_count hramp hheld))
    exact ⟨hc, hs.trans (by rw [← hc]; rfl)⟩
  · intro e he
    have hp : p.agreement.others = _ := (s.counted timing).removeDue_others new
    obtain ⟨hm, hd⟩ := List.mem_filter.1 (hp ▸ hothers e he)
    exact ⟨hm, of_decide_eq_true hd⟩
  · intro e b n he hp
    have hpo : p.agreement.own = some e := hown e b new n he hp
    obtain ⟨_, hd⟩ := Option.filter_eq_some_iff.1 hpo
    have hd : (!e.dueAt new) = true := hd
    simp [(e.dueAt_iff new).2 ⟨b, n, hp⟩] at hd
  · rintro ⟨hh, ho⟩
    rw [hexclusion]
    rcases Nat.eq_zero_or_pos s.life.exclusion with he | he
    · simp [LifeCycle.countExclusion_first hh ho he, he]
    · simp [LifeCycle.countExclusion_second hh ho he]; omega
  · intro h
    rw [hexclusion, LifeCycle.countExclusion_none fun hx => by simp [hx] at h]

end Sys2Proof.Machine
end

section
/-! PROOFS. CYCLE_BOUNDARY at a JOINING station (R96, R97): the change to MEMBER with its first publication, and the cycle counted quiet. -/

namespace Sys2Proof.Machine
open Sys2Proof

/-! ## A claim view with no record -/

theorem ClaimUnit.records_empty {u : ClaimUnit} (h : u.view = Vector.replicate 16 none) : u.records = [] := by
  simp [ClaimUnit.records, h]

/-- With no record in the view the own claims alone count (R65). -/
theorem ClaimUnit.stopEffective_own {u : ClaimUnit} (h : u.view = Vector.replicate 16 none) :
    u.stopEffective = u.stop.any (·.inForce) := by
  simp [ClaimUnit.stopEffective, ClaimUnit.records_empty h]

theorem ClaimUnit.holdSet_own {u : ClaimUnit} (h : u.view = Vector.replicate 16 none) : u.holdSet = u.currentHold := by
  simp [ClaimUnit.holdSet, ClaimUnit.records_empty h]

/-! ## A table with no own entry -/

/-- Without an own entry no due commit is the own station's. -/
theorem State.dueCommits_others {s : State} (new : Cycle) (h : s.agreement.own = none) {c : DueCommit} (hc : c ∈ s.dueCommits new) :
    c.origin ≠ s.own := by
  rw [State.dueCommits_eq, List.mem_filterMap] at hc
  obtain ⟨k, _, hk⟩ := hc
  rw [State.dueCommitOf_origin hk]
  rintro rfl
  simp [State.dueCommitOf, h] at hk

/-- The commits of other origins post CHANGE_APPLIED alone, where they are applied. -/
theorem commitNotices_others {own : Station} (serial : Byte) {outcomes : List (DueCommit × Bool)}
    (h : ∀ x ∈ outcomes, x.1.origin ≠ own) : outcomes.flatMap (commitNotices own serial) = outcomes.flatMap fun x =>
      if x.2 = true then [(.changeApplied, stationNumber x.1.origin, x.1.kind.code, x.1.target)] else [] := by
  induction outcomes with
  | nil => rfl
  | cons x rest ih =>
    rw [List.flatMap_cons, List.flatMap_cons, ih fun y hy => h y (List.mem_cons_of_mem _ hy), commitNotices,
      if_neg (h x List.mem_cons_self), List.nil_append]

/-- Every outcome is a due commit's. -/
theorem bringForward_mem {a d : Speed} {new : Cycle} {stop hold : Bool} {due : List DueCommit} {r : LineRecord}
    {x : DueCommit × Bool} (h : x ∈ (bringForward a d new stop hold due r).2) : x.1 ∈ due := by
  rw [bringForward_eq] at h
  simpa using List.mem_map_of_mem (f := (·.1)) h

/-! ## The adopted roster -/

theorem adoptedRoster_entry (own : Station) (set : StationSet) (k : Station) : (adoptedRoster own set).entries[k] =
    if k ≠ own ∧ contains set k = true then { RosterEntry.reset with state := .member } else RosterEntry.reset := by
  simp [adoptedRoster]

/-- A roster just adopted has no departure and no admission due. -/
theorem State.rosterPublication_adopted {s : State} {own : Station} {set : StationSet} (h : s.roster = adoptedRoster own set)
    (k : Station) : s.rosterPublication k = s := by
  have he : (s.roster.entries[k]).leaveDue = none ∧ (s.roster.entries[k]).admissionDue = none := by
    rw [h, adoptedRoster_entry]
    split <;> exact ⟨rfl, rfl⟩
  unfold State.rosterPublication
  extract_lets e
  have hl : ¬ (e.state = .member ∧ e.leaveDue = some s.slots.cycle)  := fun hx => absurd (he.1.symm.trans hx.2) nofun
  have hd : ¬ (e.state = .candidate ∧ e.admissionDue = some s.slots.cycle)  := fun hx => absurd (he.2.symm.trans hx.2) nofun
  rw [if_neg hl, if_neg hd, ite_self]

theorem State.publish_adopted {s : State} {own : Station} {set : StationSet} (h : s.roster = adoptedRoster own set) :
    s.publish = s.published := by
  rw [State.publish_eq]
  exact foldl_of_fixed (State.rosterPublication_adopted (s := s.published) h) allStations

/-! ## The boundary of a JOINING station -/

/-- A JOINING station's state at a boundary before the change: the new cycle begun, the own claims marked. -/
def State.marked (s : State) (timing : Timing) : State := (s.beginCycle timing).markOwnClaims

theorem State.takeBoundary_joining {s : State} {timing : Timing} (ht : s.slots.timing = some timing)
    (hj : s.life.state = .joining) (order : Bool) : s.takeBoundary order =
      match s.life.admitting with
      | some set => (s.marked timing).becomeMember set
      | none => (s.marked timing).joiningBoundary := by
  have hw : s.takeBoundary order = (s.beginCycle timing).boundaryWork order := by simp only [State.takeBoundary, ht]
  have hl : (s.beginCycle timing).life.state = .joining := hj
  rw [hw]
  simp only [State.boundaryWork, hl]
  rfl

theorem State.adopted_isMember (s : State) (set : StationSet) (k : Station) :
    (s.adopted set).isMember k = (contains set k || decide (k = s.own)) := by
  by_cases hk : k = s.own
  · subst hk
    show ((if s.own = s.own then _ else _ : RosterEntry).state == .member) = _
    simp [ownEntryState, State.adopted]
  · show ((if k = s.own then _ else (adoptedRoster s.own set).entries[k] : RosterEntry).state == .member) = _
    rw [if_neg hk, adoptedRoster_entry]
    cases contains set k <;> simp [hk, RosterEntry.reset]

/-- The change to MEMBER, whole (R97): the adopted set, and the record brought forward by the own claims and the due commits. -/
theorem State.becomeMember_published (s : State) (set : StationSet) : s.becomeMember set = (s.adopted set).published := by
  rw [State.becomeMember_eq, State.publish_adopted (s := s.adopted set) (own := s.own) (set := set) rfl]

/-- Settles O49, by whether there is an admitting set. -/
theorem aJoiningStationBecomesMember : Obligations.AJoiningStationBecomesMember := by
  intro s timing order hr hj ht hview hown new claims left
  have hleft : ((s.marked timing).removeDue new).agreement = { s.agreement with others := left } := by
    show (s.removeDue new).agreement = _
    have ho : (s.removeDue new).agreement.own = s.agreement.own := State.removeDue_own_kept (by simp [hown])
    have hs : (s.removeDue new).agreement =
      { s.agreement with own := (s.removeDue new).agreement.own, others := (s.removeDue new).agreement.others } := rfl
    rw [hs, ho, State.removeDue_others]
  have hexec : exec (.cycleBoundary order) s = .next (s.takeBoundary order) := by
    rw [exec_cycleBoundary, outOfReset_free hr]
  rw [hexec, State.takeBoundary_joining ht hj]
  refine ⟨_, timing.newCycle s.cfg.slotLength.toNat (contains s.roster.heard 15), rfl, ?_, rfl, rfl, rfl,
    timing.newCycle_slotStart _ _, ?_, ?_⟩
  · cases s.life.admitting <;> simp <;> rfl
  · intro set hset forward rampNotices commitNotices'
    let a := (s.marked timing).adopted set
    have hv : claims.view = Vector.replicate 16 none := (ownClaimsBoundary_kept new s.claims).2.trans hview
    have hf : a.forward = forward := by
      show bringForward _ _ _ claims.stopEffective claims.holdSet _ _ = _
      rw [ClaimUnit.stopEffective_own hv, ClaimUnit.holdSet_own hv]
      rfl
    have hcommits : a.forward.2.flatMap (commitNotices a.own a.ownSerial) = commitNotices' := by
      rw [hf]
      exact commitNotices_others _ fun x hx => State.dueCommits_others new hown (bringForward_mem hx)
    rw [hset]
    simp only [State.becomeMember_published]
    refine ⟨?_, ?_, ?_, ?_, rfl, State.adopted_isMember _ set, ?_, ?_⟩
    · rw [← hf, ← hleft, ← RampState.running_eq]
      rfl
    · intro h
      exact Prod.mk.inj (State.missAfter_zero (s := a) (hf ▸ h))
    · intro hramp hheld
      obtain ⟨hc, hs⟩ := Prod.mk.inj (State.missAfter_count (s := a) (hf ▸ hramp) hheld)
      exact ⟨hc, hs.trans (by rw [← hc]; rfl)⟩
    · have hn : a.published.notices = a.noticesAfter (rampNotices ++ commitNotices') := by
        rw [State.published_notices, hcommits, hf]
        rfl
      rw [State.noticesAfter_cons]
      refine hn.trans ?_
      apply State.noticesAfter_congr
      · exact State.noticesAfter_congr (s := s.atCycle new) (t := s.marked timing) rfl rfl rfl _
      · rfl
      · rfl
    · intro k hk hc
      exact (adoptedRoster_entry s.own set k).trans (if_pos ⟨hk, hc⟩)
    · intro k hk hc
      exact (adoptedRoster_entry s.own set k).trans (if_neg (by simp [hc]))
  · intro hset
    rw [hset]
    show { s.marked timing with
      agreement := ((s.marked timing).removeDue new).agreement
      follower := { s.follower with held := none }
      life := { s.life with
        quiet := if s.life.joinHeard = true then 0 else min (s.life.quiet + 1) s.cfg.missedLimit.toNat, joinHeard := false } } = _
    rw [hleft]
    rfl

end Sys2Proof.Machine
end

section
/-! PROOFS. CYCLE_BOUNDARY at a LEAVING station (R44, R79): the commits superseded, then the departures taken. -/

namespace Sys2Proof.Machine
open Sys2Proof

/-! ## The superseded commits (R44) -/

/-- The own commit that falls due is posted SUPERSEDED. -/
theorem State.supersedeCommits_due {s : State} {new : Cycle} {e : OwnEntry} {b : Ballot} {n : Nat}
    (he : s.agreement.own = some e) (hp : e.phase = .committed b new n) : s.supersedeCommits new = { s.removeDue new with
      notices := s.noticesAfter [offerResultNotice .superseded e.serial 0 0] } := by
  have hd : e.dueAt new = true := (e.dueAt_iff new).2 ⟨b, n, hp⟩
  simp only [State.supersedeCommits, he, hd]
  rfl

/-- With no own commit due nothing is posted. -/
theorem State.supersedeCommits_quiet {s : State} {new : Cycle}
    (h : ∀ e b n, s.agreement.own = some e → e.phase ≠ .committed b new n) : s.supersedeCommits new = s.removeDue new := by
  unfold State.supersedeCommits
  extract_lets t
  split
  · rfl
  next e he =>
    refine if_neg ?_
    rw [OwnEntry.dueAt_iff]
    exact fun ⟨b, n, hp⟩ => h e b n he hp

@[simp] theorem State.supersedeCommits_agreement (s : State) (new : Cycle) :
    (s.supersedeCommits new).agreement = (s.removeDue new).agreement := by
  unfold State.supersedeCommits
  extract_lets t
  split
  · rfl
  · split <;> rfl

/-! ## A departure (R79) -/

/-- Without its departure due an entry stays as it is. -/
theorem State.rosterDeparture_idle {s : State} {k : Station}
    (h : s.roster.entries[k].state ≠ .member ∨ s.roster.entries[k].leaveDue ≠ some s.slots.cycle) : s.rosterDeparture k = s :=
  if_neg fun ⟨_, hm, hd⟩ => h.elim (· hm) (· hd)

/-- A departure at a LEAVING station is a removal, which raises no cause there. -/
theorem State.rosterDeparture_taken {s : State} {k : Station} (hl : s.life.state = .leaving) (hk : k ≠ s.own)
    (hm : s.roster.entries[k].state = .member) (hd : s.roster.entries[k].leaveDue = some s.slots.cycle) :
    s.rosterDeparture k = s.removed k .left := by
  have hr : s.rosterDeparture k = s.removeMember k .left := if_pos ⟨hk, hm, hd⟩
  rw [hr, State.removeMember_eq, if_neg (by simp [hl])]

/-- What is left of the others' entries once a station is removed. -/
theorem Agreement.without_others (g : Agreement) (k : Station) :
    (g.without k).others = g.others.filter fun e => decide (e.origin ≠ k) :=
  List.filter_congr fun e _ => by rw [Bool.eq_iff_iff]; simp

/-! ## The boundary -/

theorem State.takeBoundary_leaving {s : State} {timing : Timing} (ht : s.slots.timing = some timing)
    (hl : s.life.state = .leaving) (order : Bool) : s.takeBoundary order =
      allStations.foldl State.rosterDeparture ((s.marked timing).supersedeCommits (s.slots.cycle + 1)) := by
  have hw : s.takeBoundary order = (s.beginCycle timing).boundaryWork order := by simp only [State.takeBoundary, ht]
  have hl : (s.beginCycle timing).life.state = .leaving := hl
  rw [hw]
  simp only [State.boundaryWork, hl]
  rfl

/-- Settles O50, by the superseded commits and the departure of each station. -/
theorem aLeavingStationSupersedesCommits : Obligations.ALeavingStationSupersedesCommits := by
  intro s order hr
  have hexec : exec (.cycleBoundary order) s = .next (s.takeBoundary order) := by
    rw [exec_cycleBoundary, outOfReset_free hr]
  refine ⟨fun ht => by rw [hexec, State.takeBoundary, ht], ?_⟩
  intro timing ht hl new
  let m := s.marked timing
  let t := m.supersedeCommits new
  have hboundary : exec (.cycleBoundary order) s = .next (allStations.foldl State.rosterDeparture t) := by
    rw [hexec, State.takeBoundary_leaving ht hl]
  obtain ⟨-, hbus, hslots, -, hlife, hroster, hclaims, hreference, hfollower, hport, -, -⟩ := m.supersedeCommits_frame new
  have hothers : t.agreement.others = s.agreement.others.filter fun e => decide (e.effective ≠ some new) :=
    (congrArg Agreement.others (m.supersedeCommits_agreement new)).trans (m.removeDue_others new)
  refine ⟨t, hboundary, congrArg SlotTimer.cycle hslots, hlife, fun u k hc hu hk => ⟨fun h => ?_, fun hm hd => ?_⟩, fun h => ?_,
    hreference, hfollower, hport, hclaims, hroster, hbus, hothers, fun e b n he hp => ?_, fun h => ?_⟩
  · exact State.rosterDeparture_idle (hc ▸ h)
  · rw [State.rosterDeparture_taken hu hk hm (hc ▸ hd)]
    exact ⟨rfl, u.agreement.without_others k, u.agreement.without_own k, rfl, rfl, rfl, rfl⟩
  · have hc : t.slots.cycle = new := congrArg SlotTimer.cycle hslots
    have hidle (k : Station) : t.rosterDeparture k = t :=
      State.rosterDeparture_idle (.inr (by rw [hc, hroster]; exact h k))
    rw [hboundary, foldl_of_fixed hidle]
  · have ht : t = { m.removeDue new with notices := m.noticesAfter [offerResultNotice .superseded e.serial 0 0] } :=
      State.supersedeCommits_due he hp
    rw [ht]
    exact ⟨State.removeDue_own_due (s := m) he hp, State.noticesAfter_congr (t := m) (s := s.atCycle new) rfl rfl rfl _⟩
  · have ht : t = m.removeDue new := State.supersedeCommits_quiet h
    rw [ht]
    exact ⟨State.removeDue_own_kept (s := m) h, rfl⟩

end Sys2Proof.Machine
end

section
/-! PROOFS. Frames heard before membership (R20, R40 to R43, R92 to R96, R119): what a JOINING station takes of a frame, the change from
LISTENING, and the other rows of Table 5-3. -/

namespace Sys2Proof.Machine
open Sys2Proof

/-! ## The offer and decision parts, on the proposal table -/

/-- The entry that an offer heard makes (R40). -/
def offeredEntry (k : Station) (o : OfferPart) : OtherEntry :=
  { origin := k, serial := o.serial, kind := o.kind, target := o.target, firstOffered := o.firstOffered, voters := o.voters,
    verdict := none, effective := none }

/-- The table once an offer of station k has been heard (R40). -/
def Agreement.recorded (g : Agreement) (k : Station) (o : OfferPart) : Agreement :=
  match g.other? k with
  | none => { g with others := g.others ++ [offeredEntry k o] }
  | some e =>
    if e.serial = o.serial then g else { g with others := (g.others.filter fun e => e.origin != k) ++ [offeredEntry k o] }

theorem State.recordOffer_eq (s : State) (k : Station) (o : OfferPart) :
    s.recordOffer k o = { s with agreement := s.agreement.recorded k o } := by
  unfold State.recordOffer Agreement.recorded
  cases s.agreement.other? k with
  | none => rfl
  | some e =>
    by_cases h : e.serial = o.serial
    · simp only [if_pos h]
    · simp only [if_neg h]; rfl

/-- The table once a decision of station k has been heard (R41, R42). -/
def Agreement.decided (g : Agreement) (k : Station) (d : DecisionPart) : Agreement :=
  if (g.other? k).any (·.serial == d.serial) then
    match d.outcome with
    | .commit => { g with others := g.others.map fun e => if e.origin = k then { e with effective := some (e.effective.getD d.effective) } else e }
    | .withdraw _ => { g with others := g.others.filter fun e => e.origin != k }
  else g

/-- Outside MEMBER a decision moves the table alone: MISSED_CHANGE is a MEMBER's (R43). -/
theorem State.takeDecision_eq {s : State} (k : Station) (d : DecisionPart) (h : s.life.state ≠ .member) :
    s.takeDecision k d = { s with agreement := s.agreement.decided k d } := by
  unfold State.takeDecision Agreement.decided
  cases d.outcome <;> by_cases hh : (s.agreement.other? k).any (·.serial == d.serial) = true <;> simp [hh, h] <;> rfl

/-- The table once the offer and decision parts of a frame have been heard at a JOINING station (R40 to R42). -/
def Agreement.heard (g : Agreement) (f : Frame) : Agreement :=
  let g := match f.offer with
    | none => g
    | some o => if f.state = .member then g.recorded f.station o else g
  match f.decision with
  | none => g
  | some d => g.decided f.station d

theorem State.takeProposalParts_eq {s : State} (f : Frame) (h : s.life.state = .joining) :
    s.takeProposalParts f = { s with agreement := s.agreement.heard f } := by
  have hd (g : Agreement) (d : DecisionPart) :
      State.takeDecision { s with agreement := g } f.station d = { s with agreement := g.decided f.station d } :=
    State.takeDecision_eq f.station d (by simp [h])
  unfold State.takeProposalParts Agreement.heard
  cases f.offer with
  | none =>
    cases f.decision with
    | none => rfl
    | some d => exact hd s.agreement d
  | some o =>
    by_cases hm : f.state = .member <;> cases f.decision <;> simp [h, hm, State.recordOffer_eq, hd]

@[simp] theorem Agreement.heard_own (g : Agreement) (f : Frame) : (g.heard f).own = g.own ∧ (g.heard f).serial = g.serial := by
  have recorded (g : Agreement) (o : OfferPart) : (g.recorded f.station o).own = g.own ∧ (g.recorded f.station o).serial = g.serial := by
    unfold Agreement.recorded; (repeat' split) <;> exact ⟨rfl, rfl⟩
  have decided (g : Agreement) (d : DecisionPart) : (g.decided f.station d).own = g.own ∧ (g.decided f.station d).serial = g.serial := by
    unfold Agreement.decided; (repeat' split) <;> exact ⟨rfl, rfl⟩
  unfold Agreement.heard
  dsimp only
  (repeat' split) <;> simp [recorded, decided]

/-- On an empty table a valid MEMBER frame leaves the entry of its offer, or nothing. -/
theorem Agreement.heard_others {g : Agreement} {f : Frame} (hg : g.others = []) (hm : f.state = .member)
    (hf : f.offer = none ∨ f.decision = none) : (g.heard f).others = f.offer.toList.map (offeredEntry f.station) := by
  have hk : g.other? f.station = none := by simp [Agreement.other?, hg]
  unfold Agreement.heard
  cases ho : f.offer with
  | none => cases f.decision <;> simp [Agreement.decided, hk, hg]
  | some o =>
    have hd : f.decision = none := hf.resolve_left (by simp [ho])
    simp [hd, hm, Agreement.recorded, hk, hg]

/-! ## A member frame at a JOINING station -/

/-- What a JOINING station takes of a member frame (R20, R96): the observed view, the admitting set, and the proposal parts. -/
theorem State.takeMemberFrame_eq {s : State} (f : Frame) (h : s.life.state = .joining) : s.takeMemberFrame f = { s with
    reference := if s.life.joinHeard = true then s.reference
      else { s.reference with view := viewOf f.reference, viewCycle := s.slots.cycle }
    life := { s.life with
      joinHeard := true
      admitting := if s.life.admitting = none ∧ contains f.members s.own = true then some f.members else s.life.admitting }
    agreement := s.agreement.heard f } := by
  rw [State.takeMemberFrame, State.takeProposalParts_eq]
  · simp only [Option.isNone_iff_eq_none]
  · exact h

/-! ## Frames received whole -/

/-- A frame read back as valid passes the content checks. -/
theorem contentValid_of_validFrame {b : List Byte} {f : Frame} (h : validFrame b = some f) : contentValid f = true :=
  (Option.filter_eq_some_iff.1 h).2

/-- No valid frame carries both an offer and a decision (Table 6-5). -/
theorem offer_or_decision_none {f : Frame} (h : contentValid f = true) : f.offer = none ∨ f.decision = none := by
  simp only [contentValid, Bool.and_eq_true] at h
  obtain ⟨⟨⟨⟨⟨_, h⟩, _⟩, _⟩, _⟩, _⟩ := h
  cases ho : f.offer <;> simp_all

/-- RECEIVED_WHOLE of another number's valid frame hands it on. -/
theorem WholeFrame.exec {s : State} {r : Receipt} {e : Nat} {f : Frame} (h : WholeFrame s r e f) (order : PartOrder) :
    exec (.receivedWhole order) s = .next (s.frameTaken.handOn f e r.bytes.length order) := by
  rw [exec_receivedWhole, outOfReset_free h.running, State.receiveWhole_valid order h.receipt h.ended h.crc h.valid]
  rfl

section
variable {s : State} {f : Frame} {e bytes : Nat} {order : PartOrder}

theorem State.handOn_listening (hf : f.station ≠ s.own) (h : s.life.state = .listening) :
    s.handOn f e bytes order = s.takeListening f e bytes := by
  simp [State.handOn, hf, h]

theorem State.handOn_joining (hf : f.station ≠ s.own) (h : s.life.state = .joining) : s.handOn f e bytes order =
    if s.isMemberFrame f then (s.realign f.station e bytes).takeMemberFrame f else s := by
  simp [State.handOn, hf, h]

/-- A MEMBER frame with the own digest (R94). -/
theorem State.takeListening_adopted (hm : f.state = .member) (hd : f.digest = s.digest) :
    s.takeListening f e bytes = (s.startJoining f e bytes).takeMemberFrame f :=
  (if_pos hm).trans (if_pos hd)

/-- A MEMBER frame with another digest (R93). -/
theorem State.takeListening_mismatch (hm : f.state = .member) (hd : f.digest ≠ s.digest) :
    s.takeListening f e bytes = (s.reportMismatch f).restartWindow :=
  (if_pos hm).trans (if_neg hd)

/-- A frame of a JOINING or LEAVING sender (R93). -/
theorem State.takeListening_other (hm : f.state ≠ .member) :
    s.takeListening f e bytes = if f.digest = s.digest then s.restartWindow else s :=
  if_neg hm

theorem State.reportMismatch_reported (h : contains s.life.mismatchReported f.station = true) : s.reportMismatch f = s := if_pos h

theorem State.reportMismatch_first (h : contains s.life.mismatchReported f.station = false) : s.reportMismatch f = { s with
    life := { s.life with mismatchReported := setInsert s.life.mismatchReported f.station }
    notices := s.noticesAfter [(.configMismatch, stationNumber f.station, 0, f.digest)] } :=
  if_neg (by simp [h])

/-- The change from LISTENING to JOINING, whole (R94, R132). -/
theorem State.startJoining_eq (s : State) (f : Frame) (e bytes : Nat) : s.startJoining f e bytes = { s with
    slots := { s.slots with
      timing := some (adoptedTiming s.own f.station (slotStartOf s.cfg.rateCode e bytes)), cycle := f.cycle, atBoundary := false }
    life := { s.life with
      state := .joining, listenTimer := none, quiet := 0, joiningSince := none, admitting := none, joinHeard := false }
    reference := s.reference.exited
    follower := { s.follower with held := none }
    notices := (s.atCycle f.cycle).noticesAfter [stationStateNotice .joining s.life.state] } := rfl

theorem adoptedTiming_slotStart (own k : Station) (start : Int) (slotLength : Nat) :
    (adoptedTiming own k start).slotStart slotLength k = start := by
  simp [Timing.slotStart, adoptedTiming]

theorem adoptedTiming_closes (own k : Station) (start : Int) (j : Station) :
    contains (adoptedTiming own k start).closesRaised j = decide (j.val < k.val) := by
  simp [adoptedTiming, slotsBelow]

end

/-- Settles O36, from the change to JOINING and the member frame taken on it. -/
theorem aMemberFrameIsAdopted : Obligations.AMemberFrameIsAdopted := by
  intro s order r e f hr hl hrec he hcrc hv hown hm hdig hothers
  have hw : WholeFrame s r e f := ⟨hr, hrec, he, hcrc, hv, hown⟩
  have hexec : exec (.receivedWhole order) s = .next ((s.frameTaken.startJoining f e r.bytes.length).takeMemberFrame f) := by
    rw [hw.exec, State.handOn_listening (s := s.frameTaken) hown hl, State.takeListening_adopted (s := s.frameTaken) hm hdig]
  have hheard := Agreement.heard_others hothers hm (offer_or_decision_none (contentValid_of_validFrame hv))
  rw [State.takeMemberFrame_eq f rfl, State.startJoining_eq] at hexec
  refine ⟨_, adoptedTiming s.own f.station (slotStartOf s.cfg.rateCode e r.bytes.length), hexec, rfl, rfl, rfl, rfl, rfl, ?_, rfl,
    adoptedTiming_slotStart .., rfl, adoptedTiming_closes _ _ _, rfl, rfl, rfl, rfl, (s.agreement.heard_own f).1, ?_, ?_, rfl, rfl, rfl,
    rfl, rfl⟩
  · exact ite_congr (propext (and_iff_right rfl)) (fun _ => rfl) (fun _ => rfl)
  · exact (congrArg _ hheard).trans (List.map_map ..)
  · rw [← hl]
    exact State.noticesAfter_congr (s := s.atCycle f.cycle) (t := s.frameTaken.atCycle f.cycle) rfl rfl rfl _

theorem State.closeSlot_cycle (s : State) (j : Station) : (s.closeSlot j).slots.cycle = s.slots.cycle := by
  unfold State.closeSlot
  (repeat' split) <;> simp

/-- A re-alignment leaves the cycle count. -/
theorem State.realign_cycle (s : State) (k : Station) (e bytes : Nat) : (s.realign k e bytes).slots.cycle = s.slots.cycle := by
  unfold State.realign
  split
  · rfl
  · exact foldl_field (g := fun t => t.slots.cycle) State.closeSlot_cycle _ _

/-- Settles O37, by the receiver's state and the rows of Table 5-3. -/
theorem framesHeardBeforeMembership : Obligations.FramesHeardBeforeMembership := by
  intro s order r e f hw taken restarted
  rw [hw.exec]
  refine ⟨fun hl => ?_, fun hj hm hd hc => ?_⟩
  · rw [State.handOn_listening (s := taken) hw.other hl]
    refine ⟨fun hm hd => ?_, fun hm hd => ?_, fun hm hd => ?_⟩
    · rw [State.takeListening_mismatch (s := taken) hm hd]
      refine ⟨fun hc => ?_, fun hc => ?_⟩
      · rw [State.reportMismatch_reported (s := taken) hc]; rfl
      · rw [State.reportMismatch_first (s := taken) hc, State.noticesAfter_congr (s := s) (t := taken) rfl rfl rfl]; rfl
    · rw [State.takeListening_other (s := taken) hm, if_pos (c := f.digest = taken.digest) hd]; rfl
    · rw [State.takeListening_other (s := taken) hm, if_neg (c := f.digest = taken.digest) hd]
  · intro aligned
    have hmf : taken.isMemberFrame f = true := by
      simp only [State.isMemberFrame, Bool.and_eq_true, beq_iff_eq]
      exact ⟨⟨hm, hd⟩, hc⟩
    obtain ⟨-, -, -, hlife, hagreement, -, href, -, -, -, hstore, -⟩ := taken.realign_frame f.station e r.bytes.length
    have hown : aligned.own = s.own := congrArg ConfigStore.number hstore
    have hcycle : aligned.slots.cycle = s.slots.cycle := taken.realign_cycle f.station e r.bytes.length
    rw [State.handOn_joining (s := taken) hw.other hj, if_pos hmf, State.takeMemberFrame_eq f (by rw [hlife]; exact hj),
      State.takeProposalParts_eq f hj]
    simp only [aligned] at hown hcycle ⊢
    rw [hlife, href, hagreement, hown, hcycle]
    rfl

end Sys2Proof.Machine
end

section
/-! PROOFS. The island rule (R99, R100): a running line's notice, a lost merge whole, and which of two sets wins. -/

namespace Sys2Proof.Machine
open Sys2Proof

/-! ## Which set wins (R100) -/

/-- Two different sets differ at a lowest station. -/
theorem lowest_difference {a b : StationSet} (h : a ≠ b) : ∃ k, (allStations.find? fun k => contains a k != contains b k) = some k ∧
    contains a k ≠ contains b k ∧ ∀ j, j < k → contains a j = contains b j := by
  cases hf : allStations.find? fun k => contains a k != contains b k with
  | none =>
    refine absurd (stationSet_ext fun k => ?_) h
    simpa using List.find?_eq_none.1 hf k (mem_allStations k)
  | some k =>
    obtain ⟨hk, i, hi, rfl, hlt⟩ := List.find?_eq_some_iff_getElem.1 hf
    refine ⟨_, rfl, by simpa using hk, fun j hj => ?_⟩
    have hj' := hlt j.val (by have := Fin.lt_def.1 hj; simpa [allStations] using this)
    simpa [allStations] using hj'

/-- With equal sizes the set that holds the lowest difference wins. -/
theorem setWins_of_size_eq {a b : StationSet} {k : Station} (hs : setSize a = setSize b)
    (hk : (allStations.find? fun k => contains a k != contains b k) = some k) : setWins a b = contains a k := by
  rw [setWins, if_pos hs, hk]

theorem setWins_of_size_ne {a b : StationSet} (hs : setSize a ≠ setSize b) : setWins a b = decide (setSize b < setSize a) := if_neg hs

theorem setWins_iff {a b : StationSet} (h : a ≠ b) : setWins a b = true ↔ setSize b < setSize a ∨ (setSize a = setSize b ∧
    ∃ k, contains a k = true ∧ contains b k = false ∧ ∀ j, j < k → contains a j = contains b j) := by
  by_cases hs : setSize a = setSize b
  · obtain ⟨k, hf, hk, hlow⟩ := lowest_difference h
    rw [setWins_of_size_eq hs hf]
    constructor
    · intro ha
      exact .inr ⟨hs, k, ha, by simpa [ha] using hk, hlow⟩
    · rintro (hlt | ⟨_, j, ha, hb, hj⟩)
      · omega
      · rcases Nat.lt_trichotomy j.val k.val with hjk | hjk | hjk
        · exact absurd (hlow j hjk) (by simp [ha, hb])
        · rwa [← Fin.ext hjk]
        · exact absurd (hj k hjk) hk
  · rw [setWins_of_size_ne hs]
    simp [hs]

theorem setWins_swap {a b : StationSet} (h : a ≠ b) : setWins a b = !setWins b a := by
  by_cases hs : setSize a = setSize b
  · obtain ⟨k, hf, hk, -⟩ := lowest_difference h
    have hf' : (allStations.find? fun k => contains b k != contains a k) = some k := by
      rw [← hf]
      exact congrArg (List.find? · allStations) (funext fun k => Bool.xor_comm _ _)
    rw [setWins_of_size_eq hs hf, setWins_of_size_eq hs.symm hf']
    revert hk
    cases contains a k <;> cases contains b k <;> simp
  · rw [setWins_of_size_ne hs, setWins_of_size_ne (Ne.symm hs), ← decide_not]
    exact decide_eq_decide.2 (by omega)

/-! ## A running line -/

theorem State.foreignIsland_reported {s : State} {f : Frame} (h : contains s.life.islandReported f.station = true) :
    s.foreignIsland f = s.raise .foreignIsland :=
  if_pos (by simpa using h)

theorem State.foreignIsland_first {s : State} {f : Frame} (h : contains s.life.islandReported f.station = false) :
    s.foreignIsland f = { (s.raise .foreignIsland).post .foreignIsland (stationNumber f.station) f.reference.ramp.code f.members with
      life := { s.life with islandReported := setInsert s.life.islandReported f.station } } := by
  simp [State.foreignIsland, h]

/-- A line running on either side raises FOREIGN_ISLAND (R99). -/
theorem State.islandRule_running {s : State} {f : Frame} {e bytes : Nat}
    (h : s.reference.record.ramp ≠ .stopped ∨ f.reference.ramp ≠ .stopped) : s.islandRule f e bytes = s.foreignIsland f :=
  if_pos (h.imp (RampState.running_iff _).2 (RampState.running_iff _).2)

/-! ## A lost merge -/

section
variable {s : State} {f : Frame} {e bytes : Nat}

/-- With both lines STOPPED a MEMBER frame whose set wins is taken by a JOINING station under the winner's timing (R100). -/
theorem State.islandRule_stopped (hs : s.reference.record.ramp = .stopped) (hf : f.reference.ramp = .stopped) :
    s.islandRule f e bytes = if f.state = .member ∧ setWins s.memberSet f.members = false then
      ((s.adoptTiming f e bytes).rejoin none).takeMemberFrame f else s := by
  simp [State.islandRule, hs, hf, RampState.running]

/-- The change of a lost merge, its frame taken: kind (b), and the view, the admitting set and the offer of the winner's frame. -/
theorem State.lostMerge_eq : ((s.adoptTiming f e bytes).rejoin none).takeMemberFrame f =
    { (s.adoptTiming f e bytes).rejoin none with
      reference := { s.reference.exited with view := viewOf f.reference, viewCycle := f.cycle }
      life := { ((s.adoptTiming f e bytes).rejoin none).life with
        joinHeard := true
        admitting := if contains f.members s.own = true then some f.members else none }
      agreement := ({ s.agreement with own := none, others := [] } : Agreement).heard f } := by
  rw [State.takeMemberFrame_eq f (State.rejoin_exit ..).state, State.rejoin_eq]
  have ha : (if (none : Option StationSet) = none ∧ contains f.members s.own = true then some f.members else none) =
      if contains f.members s.own = true then some f.members else none :=
        ite_congr (propext (and_iff_right rfl)) (fun _ => rfl) (fun _ => rfl)
  rw [← ha]
  rfl

end

/-- Settles O43, by the three outcomes of the rule and the order of the sets. -/
theorem theIslandRuleDecides : Obligations.TheIslandRuleDecides := by
  refine ⟨fun s f e bytes hm => ⟨fun hrun => ?_, fun hs hf => ⟨fun hw => ?_, fun hfm hw => ?_⟩⟩,
    fun a b h => ⟨setWins_iff h, setWins_swap h⟩⟩
  · rw [State.islandRule_running hrun]
    cases hc : contains s.life.islandReported f.station with
    | true =>
      rw [State.foreignIsland_reported hc]
      refine ⟨?_, ?_, rfl, ?_, ?_, fun _ => ⟨?_, rfl⟩, fun h => (nomatch h)⟩ <;> simp [hm]
    | false =>
      rw [State.foreignIsland_first hc]
      refine ⟨hm, ?_, ?_, ?_, ?_, fun h => (nomatch h), fun _ => ⟨rfl, rfl⟩⟩ <;> simp
  · rw [State.islandRule_stopped hs hf, if_neg (by rintro ⟨h₁, h₂⟩; simp [h₁, h₂] at hw)]
  · rw [State.islandRule_stopped hs hf, if_pos ⟨hfm, hw⟩, State.lostMerge_eq]
    obtain ⟨state, bus, roster, claims, follower, -, own, counts, kept⟩ := State.rejoin_exit (s.adoptTiming f e bytes) none
    obtain ⟨hown, hserial⟩ := ({ s.agreement with own := none, others := [] } : Agreement).heard_own f
    refine ⟨⟨state, bus, roster, claims, follower, rfl, ⟨hown, hserial⟩, counts, kept⟩, ?_, rfl, rfl, ?_, rfl, rfl,
      Agreement.heard_others rfl hfm, ?_⟩ <;> simp only [State.rejoin_eq]
    · rfl
    · rfl
    · rw [← hm]
      exact State.noticesAfter_congr (s := s.atCycle f.cycle) (t := s.adoptTiming f e bytes) rfl rfl rfl _

end Sys2Proof.Machine
end

section
/-! PROOFS. The own claims (3.2 to 3.4): raises, the stop inputs by their modes, CLEAR_STOP and the manual hold. -/

namespace Sys2Proof.Machine
open Sys2Proof

/-! ## Raises (R50) -/

/-- A raise changes the own stop claim and the notices alone. -/
theorem State.raise_eq (s : State) (cause : StopCause) : s.raise cause = { s with
    claims := { s.claims with stop := (s.raise cause).claims.stop }, notices := (s.raise cause).notices } := by
  cases h : s.claims.stop with
  | none => rw [State.raise_clear cause h]
  | some k => rw [State.raise_set cause h]; split <;> rfl

/-- A raise does not read the port. -/
theorem State.raise_port (s : State) (p : LocalPort) (cause : StopCause) :
    ({ s with port := p } : State).raise cause = { s.raise cause with port := p } := by
  cases h : s.claims.stop with
  | none => exact (State.raise_clear (s := { s with port := p }) cause h).trans (by rw [State.raise_clear cause h]; rfl)
  | some k =>
    refine (State.raise_set (s := { s with port := p }) cause h).trans ?_
    rw [State.raise_set cause h]
    split <;> rfl

/-! ## The stop inputs by their modes (Table 3-3) -/

theorem levelActive_iff (mode : InputMode) (level : Option Bool) : levelActive mode level = true ↔
    (mode = .levelLow ∧ level = some false) ∨ (mode = .levelHigh ∧ level = some true) := by
  revert mode level; rintro (_ | _ | _ | _ | _) (_ | _ | _) <;> decide

theorem edgeMatches_iff (mode : InputMode) (before : Option Bool) (high : Bool) : edgeMatches mode before high = true ↔
    (mode = .edgeFall ∧ before = some true ∧ high = false) ∨ (mode = .edgeRise ∧ before = some false ∧ high = true) := by
  revert mode before high; rintro (_ | _ | _ | _ | _) (_ | _ | _) (_ | _) <;> decide

theorem inputRaises_iff (mode : InputMode) (before : Option Bool) (flag high : Bool) : InputRaises mode before flag high ↔
    levelActive mode (some high) = true ∨ (edgeMatches mode before high = true ∧ flag = false) := by
  simp only [InputRaises, levelActive_iff, edgeMatches_iff, Option.some.injEq, or_and_right, or_assoc, and_assoc]

/-- In an edge mode a recognition raises exactly where it latches the flag. -/
theorem edge_inputRaises_iff (mode : InputMode) (before : Option Bool) (flag high : Bool) :
    ((mode = .edgeFall ∨ mode = .edgeRise) ∧ InputRaises mode before flag high) ↔
      (edgeMatches mode before high = true ∧ flag = false) := by
  rw [inputRaises_iff, levelActive_iff, edgeMatches_iff]
  cases mode <;> simp

/-- A level already recognised changes nothing. -/
theorem State.recogniseInput_same {s : State} {n : Fin 4} {high : Bool} (h : s.claims.inputs[n].level = some high) :
    s.recogniseInput n high = s :=
  if_pos h

/-- Another level becomes the recognised one, latches the flag on a matching edge, and raises by Table 3-3. -/
theorem State.recogniseInput_change {s : State} {n : Fin 4} {high flag : Bool} (h : s.claims.inputs[n].level ≠ some high)
    (hf : flag = (s.claims.inputs[n].edgeFlag ||
      (edgeMatches (s.inputMode n) s.claims.inputs[n].level high && !s.claims.inputs[n].edgeFlag))) :
    let t := { s with claims := { s.claims with inputs := s.claims.inputs.set n { level := some high, edgeFlag := flag } } }
    s.recogniseInput n high =
      if levelActive (s.inputMode n) (some high) ||
        (edgeMatches (s.inputMode n) s.claims.inputs[n].level high && !s.claims.inputs[n].edgeFlag)
      then t.raise (.stopInput n) else t := by
  subst hf
  exact if_neg h

/-- Settles O24, by the two branches of a recognition. -/
theorem stopInputsActByMode : Obligations.StopInputsActByMode := by
  intro s n high hr before edge
  rw [exec_stopInputRecognised, outOfReset_free hr]
  refine ⟨fun h => by rw [State.recogniseInput_same h], fun h flag hflag => ?_⟩
  intro t
  have hedge : edge ↔ (edgeMatches (s.inputMode n) before.level high = true ∧ before.edgeFlag = false) := edge_inputRaises_iff ..
  have hf : flag = (before.edgeFlag || (edgeMatches (s.inputMode n) before.level high && !before.edgeFlag)) := by
    rw [Bool.eq_iff_iff, hflag, hedge]; simp
  rw [State.recogniseInput_change h hf, inputRaises_iff]
  constructor
  · intro hraise
    rw [if_pos (by simpa [before] using hraise)]
  · intro hraise
    rw [if_neg (by simpa [before] using hraise)]

/-! ## The active inputs, in ascending order (R52, R56) -/

theorem State.mem_activeInputs {s : State} {n : Fin 4} :
    n ∈ s.activeInputs ↔ levelActive (s.inputMode n) s.claims.inputs[n].level = true := by
  simp [State.activeInputs, List.mem_finRange]

theorem State.activeInputs_ascend (s : State) : s.activeInputs.Pairwise (· < ·) :=
  (List.pairwise_lt_finRange 4).filter _

theorem State.activeInputs_none {s : State} (h : ∀ n, ¬ levelActive (s.inputMode n) s.claims.inputs[n].level = true) :
    s.activeInputs = [] :=
  List.eq_nil_iff_forall_not_mem.2 fun n hn => h n (State.mem_activeInputs.1 hn)

/-- The lowest-numbered active input comes first. -/
theorem State.activeInputs_lowest {s : State} {n : Fin 4} (h : levelActive (s.inputMode n) s.claims.inputs[n].level = true)
    (hlow : ∀ m, m < n → ¬ levelActive (s.inputMode m) s.claims.inputs[m].level = true) :
    ∃ more, s.activeInputs = n :: more := by
  have hn := State.mem_activeInputs.2 h
  have hasc := s.activeInputs_ascend
  cases ha : s.activeInputs with
  | nil => simp [ha] at hn
  | cons m more =>
    rw [ha] at hn hasc
    have hm : m ∈ s.activeInputs := by simp [ha]
    rcases List.mem_cons.1 hn with rfl | hmore
    · exact ⟨more, rfl⟩
    · exact absurd (State.mem_activeInputs.1 hm) (hlow m ((List.pairwise_cons.1 hasc).1 n hmore))

/-! ## The requests -/

/-- A request whose owner changes the claims and the notices alone. -/
theorem State.takeRequest_claims {s : State} {kind : Byte} {owner : Owner} {claims : ClaimUnit} {notices : NoticeUnit} {result : Result}
    {body : List Byte} (h : s.takesTransaction = true)
    (ho : owner s.deselected = ({ s.deselected with claims := claims, notices := notices }, result, body)) :
    s.takeRequest kind owner = { s.answered kind result body with claims := claims, notices := notices } := by
  rw [State.takeRequest_taken kind owner h, ho]; rfl

/-- A request whose owner answers without a change. -/
theorem State.takeRequest_unchanged {s : State} {kind : Byte} {owner : Owner} {result : Result} {body : List Byte}
    (h : s.takesTransaction = true) (ho : owner s.deselected = (s.deselected, result, body)) :
    s.takeRequest kind owner = s.answered kind result body := by
  rw [State.takeRequest_taken kind owner h, ho]; rfl

/-- The claims with the edge flags and the stop claim cleared (R52). -/
def ClaimUnit.cleared (u : ClaimUnit) : ClaimUnit :=
  { u with stop := none, inputs := u.inputs.map fun i => { i with edgeFlag := false } }

/-- Clearing keeps the recognised levels, so the same inputs are active. -/
theorem State.activeInputs_cleared (s : State) : ({ s with claims := s.claims.cleared } : State).activeInputs = s.activeInputs :=
  List.filter_congr fun n _ => by simp [ClaimUnit.cleared, State.inputMode, State.cfg]

/-- CLEAR_STOP is refused at a MEMBER whose line runs. -/
theorem State.takeClearStop_refused {s : State} (h : s.life.state = .member ∧ s.reference.record.ramp ≠ .stopped) :
    s.takeClearStop = (s, .wrongState, []) :=
  if_pos ⟨h.1, (RampState.running_iff _).2 h.2⟩

/-- Elsewhere it clears, and answers by whether an input raised again. -/
theorem State.takeClearStop_taken {s t : State} {active : Bool} (h : ¬ (s.life.state = .member ∧ s.reference.record.ramp ≠ .stopped))
    (hc : s.clearStop = (t, active)) : s.takeClearStop = (t, if active then .stillActive else .ok, []) := by
  unfold State.takeClearStop
  rw [if_neg fun hr => h ⟨hr.1, (RampState.running_iff _).1 hr.2⟩, hc]

/-- CLEAR_STOP with no input active. -/
theorem State.clearStop_quiet {s : State} (h : s.activeInputs = []) : s.clearStop = ({ s with claims := s.claims.cleared }, false) := by
  unfold State.clearStop
  extract_lets inputs _ t
  rw [show t.activeInputs = [] from s.activeInputs_cleared.trans h]
  rfl

/-- CLEAR_STOP with an input active: the lowest raises the claim again. -/
theorem State.clearStop_active {s : State} {n : Fin 4} {more : List (Fin 4)} (h : s.activeInputs = n :: more) :
    s.clearStop = ({ s with
      claims := { s.claims.cleared with
        stop := some { cause := .stopInput n, effective := none, inForce := false, reported := [] } }
      notices := s.noticesAfter [(.stopClaim, stationNumber s.own, (StopCause.stopInput n).code, 0)] }, true) := by
  unfold State.clearStop
  extract_lets inputs _ t
  rw [show t.activeInputs = n :: more from s.activeInputs_cleared.trans h]
  dsimp only
  rw [State.raise_clear (s := t) _ rfl]
  rfl

/-- Settles O23, by the branches of a raise and of CLEAR_STOP. -/
theorem claimRequestsAct : Obligations.ClaimRequestsAct := by
  refine ⟨⟨fun s cause => ⟨State.raise_clear cause, fun k hk => ?_⟩, fun s ht => ?_⟩, fun s ht => ?_, fun s ht => ?_⟩
  · rw [State.raise_set cause hk]
    exact ⟨fun h => if_pos h, fun hc hr => if_neg (not_or.2 ⟨hc, hr⟩)⟩
  · have hraise : s.deselected.raise .localRequest = { s.deselected with
        claims := (s.raise .localRequest).claims, notices := (s.raise .localRequest).notices } :=
      (s.raise_port s.deselected.port .localRequest).trans (by rw [s.raise_eq]; rfl)
    rw [exec_raiseStop, State.takeRequest_claims ht (by rw [answerOk, hraise])]
  · intro cleared active
    have hactive (n : Fin 4) : active n ↔ levelActive (s.inputMode n) s.claims.inputs[n].level = true := (levelActive_iff ..).symm
    rw [exec_clearStop]
    refine ⟨fun h => ?_, fun h => ⟨fun hnone => ?_, fun n hn hlow => ?_⟩⟩
    · rw [State.takeRequest_unchanged ht (State.takeClearStop_refused (s := s.deselected) h)]
    · have hq := State.activeInputs_none (s := s.deselected) fun n hn => hnone n ((hactive n).2 hn)
      rw [State.takeRequest_claims ht (State.takeClearStop_taken (s := s.deselected) h (State.clearStop_quiet hq))]
      rfl
    · obtain ⟨more, hm⟩ := State.activeInputs_lowest (s := s.deselected) ((hactive n).1 hn)
        fun m hmn hm => hlow m hmn ((hactive m).2 hm)
      rw [State.takeRequest_claims ht (State.takeClearStop_taken (s := s.deselected) h (State.clearStop_active hm))]
      rfl
  · rw [exec_setHold, exec_releaseHold]
    exact ⟨by rw [State.takeRequest_claims ht rfl]; rfl, by rw [State.takeRequest_claims ht rfl]; rfl⟩

end Sys2Proof.Machine
end

section
/-! PROOFS. The claim view (3.5) and the answers for a new cycle (3.6): the parts of a member's frame by their tables, and what counts at a
boundary. -/

namespace Sys2Proof.Machine
open Sys2Proof

/-! ## A stop claim first heard (R62) -/

/-- The state in which a stop claim first heard is recorded and STOP_CLAIM posted. -/
def State.stopNoted (s : State) (k : Station) (r : ClaimRecord) (cause : StopCause) (e : Cycle) : State :=
  (s.setRecord k (some { r with stop := some { cause := cause, effective := e, inForce := !ahead e s.slots.cycle } })).post
    .stopClaim (stationNumber k) cause.code e

/-- A claim that is due calls for a late stop, and one ahead does not. -/
theorem State.firstHeardStop_eq (s : State) (k : Station) (r : ClaimRecord) (cause : StopCause) (e : Cycle) :
    s.firstHeardStop k r cause e =
      if ahead e s.slots.cycle = true then s.stopNoted k r cause e else (s.stopNoted k r cause e).lateStop := by
  unfold State.firstHeardStop State.stopNoted
  cases ahead e s.slots.cycle <;> rfl

/-! ## The stop part (Table 3-6) -/

section
variable {s : State} {f : Frame} {r : ClaimRecord} {cause : StopCause}

theorem State.takeStopPart_new (h : s.claims.view[f.station] = none) : s.takeStopPart f =
    s.createRecord f.station (f.stopCause.map fun cause => (cause, f.stopEffective)) f.hold f.holdEffective := by
  unfold State.takeStopPart; rw [h]

theorem State.takeStopPart_clear (h : s.claims.view[f.station] = some r) (hc : f.stopCause = none) :
    s.takeStopPart f = s.setRecord f.station (some { r with stop := none }) := by
  unfold State.takeStopPart; rw [h, hc]

/-- The claim that the record holds already changes nothing. -/
theorem State.takeStopPart_known (h : s.claims.view[f.station] = some r) (hc : f.stopCause = some cause)
    (hk : ∃ k, r.stop = some k ∧ k.cause = cause ∧ k.effective = f.stopEffective) : s.takeStopPart f = s := by
  unfold State.takeStopPart; rw [h, hc]
  obtain ⟨k, hk, hcause, he⟩ := hk
  exact if_pos (by simp [hk, hcause, he])

/-- Another claim is taken as one first heard. -/
theorem State.takeStopPart_changed (h : s.claims.view[f.station] = some r) (hc : f.stopCause = some cause)
    (hk : ∀ k, r.stop = some k → k.cause ≠ cause ∨ k.effective ≠ f.stopEffective) :
    s.takeStopPart f = s.firstHeardStop f.station r cause f.stopEffective := by
  unfold State.takeStopPart; rw [h, hc]
  refine if_neg fun hsame => ?_
  cases hs : r.stop with
  | none => simp [hs] at hsame
  | some k =>
    rw [hs, Option.any_some, Bool.and_eq_true, beq_iff_eq, beq_iff_eq] at hsame
    exact (hk k hs).elim (· hsame.1) (· hsame.2)

/-! ## The hold part (R63) -/

theorem holdPairTaken_iff (r : ClaimRecord) (hold : Bool) (e : Cycle) :
    holdPairTaken r hold e = true ↔ ¬ (r.pendingHold = some (hold, e) ∨ (r.pendingHold = none ∧ hold = r.hold)) := by
  unfold holdPairTaken
  cases r.pendingHold <;> simp

theorem State.takeHoldPart_new (h : s.claims.view[f.station] = none) : s.takeHoldPart f = s := by
  unfold State.takeHoldPart; rw [h]

/-- The pair pending already, or with none pending the state that is current, changes nothing. -/
theorem State.takeHoldPart_settled (h : s.claims.view[f.station] = some r) (hp : holdPairTaken r f.hold f.holdEffective = false) :
    s.takeHoldPart f = s := by
  unfold State.takeHoldPart; rw [h]
  exact if_neg (by simp [hp])

/-- Another pair becomes pending where it is ahead, ends the pending one where it is due and says the current state, and is a missed change where it
is due and says the other state. -/
theorem State.takeHoldPart_taken (h : s.claims.view[f.station] = some r) (hp : holdPairTaken r f.hold f.holdEffective = true) :
    s.takeHoldPart f =
      if ahead f.holdEffective s.slots.cycle = true then
        s.setRecord f.station (some { r with pendingHold := some (f.hold, f.holdEffective) })
      else if f.hold = r.hold then s.setRecord f.station (some { r with pendingHold := none })
      else (s.setRecord f.station (some { r with hold := f.hold, pendingHold := none })).raise .missedChange := by
  unfold State.takeHoldPart; rw [h]
  exact if_pos hp

end

/-- The record that a first hearing creates, with its stop claim (R61). -/
theorem newHold_stop (hold : Bool) (e c : Cycle) (stop : Option HeardStop) : { newHold hold e c with stop := stop } =
    if ahead e c = true then { stop := stop, hold := !hold, pendingHold := some (hold, e) }
    else { stop := stop, hold := hold, pendingHold := none } := by
  unfold newHold; split <;> rfl

/-- Settles O25, by the cases of the two parts. -/
theorem claimPartsFollowTheirTables : Obligations.ClaimPartsFollowTheirTables := by
  refine ⟨fun s f hnew => ?_, fun s f r hr => ?_⟩
  · intro k c created noted
    have hcreated (stop : Option HeardStop) :
        created stop = s.setRecord k (some { newHold f.hold f.holdEffective c with stop := stop }) := by
      rw [newHold_stop]
    have hnoted (cause : StopCause) : s.stopNoted k (newHold f.hold f.holdEffective c) cause f.stopEffective =
        noted cause (!ahead f.stopEffective c) := by
      simp only [noted, hcreated]; rfl
    rw [State.takeStopPart_new hnew]
    refine ⟨fun hs => ?_, fun cause hs => ?_, State.takeHoldPart_new hnew⟩
    · rw [hs, hcreated]
      unfold State.createRecord newHold
      dsimp only [Option.map_none]
      split <;> rfl
    · have hheard : s.createRecord f.station (f.stopCause.map fun cause => (cause, f.stopEffective)) f.hold f.holdEffective =
          s.firstHeardStop k (newHold f.hold f.holdEffective c) cause f.stopEffective := by rw [hs]; rfl
      rw [hheard, State.firstHeardStop_eq, hnoted]
      exact ⟨fun ha => by rw [if_pos ha, ha]; rfl, fun ha => by rw [if_neg (Bool.not_eq_true _ ▸ ha), ha]; rfl⟩
  · intro k first settled
    have hsettled : holdPairTaken r f.hold f.holdEffective = true ↔ ¬ settled := holdPairTaken_iff ..
    refine ⟨State.takeStopPart_clear hr, fun cause hs => ⟨State.takeStopPart_known hr hs, fun hk => ?_⟩, fun h => ?_,
      fun h ha => ?_, fun h ha => ⟨fun hh => ?_, fun hh => ?_⟩⟩
    · rw [State.takeStopPart_changed hr hs hk, State.firstHeardStop_eq]
      rfl
    · exact State.takeHoldPart_settled hr (by rw [← Bool.not_eq_true, hsettled]; exact not_not_intro h)
    all_goals rw [State.takeHoldPart_taken hr (hsettled.2 h)]
    · rw [if_pos ha]
    · rw [if_neg (by simp [ha]), if_pos hh]
    · rw [if_neg (by simp [ha]), if_neg hh]

/-! ## What counts at a boundary (R65) -/

theorem ClaimUnit.mem_records {u : ClaimUnit} {r : ClaimRecord} : r ∈ u.records ↔ ∃ i : Station, u.view[i] = some r := by
  simp only [ClaimUnit.records, List.mem_filterMap, id, exists_eq_right, Vector.mem_toList_iff, Vector.mem_iff_getElem]
  exact ⟨fun ⟨i, hi, h⟩ => ⟨⟨i, hi⟩, h⟩, fun ⟨i, h⟩ => ⟨i.val, i.isLt, h⟩⟩

/-- The records of a boundary are the records before it, each brought to the new cycle. -/
theorem mem_records_claimsBoundary {new : Cycle} {u : ClaimUnit} {r : ClaimRecord} :
    r ∈ (claimsBoundary new u).records ↔ ∃ (i : Station) (before : ClaimRecord), u.view[i] = some before ∧ recordBoundary new before = r := by
  simp [ClaimUnit.mem_records, claimsBoundary]

theorem recordBoundary_stop (new : Cycle) (r : ClaimRecord) : (recordBoundary new r).stop =
    r.stop.map fun k => { k with inForce := k.inForce || k.effective == new } := by
  unfold recordBoundary
  split
  · rfl
  · split <;> rfl

/-- A record's claim counts where it is in force, the boundary's marking made (R64). -/
theorem recordBoundary_inForce (new : Cycle) (r : ClaimRecord) : (recordBoundary new r).stop.any (·.inForce) = true ↔
    ∃ h, r.stop = some h ∧ (h.inForce = true ∨ h.effective = new) := by
  rw [recordBoundary_stop]
  cases r.stop <;> simp

/-- A record's hold counts where it is current, the change falling due made (R64). -/
theorem recordBoundary_hold (new : Cycle) (r : ClaimRecord) : (recordBoundary new r).hold = true ↔
    r.pendingHold = some (true, new) ∨ (r.hold = true ∧ r.pendingHold ≠ some (false, new)) := by
  unfold recordBoundary
  cases r.pendingHold with
  | none => simp
  | some pair =>
    obtain ⟨hold, e⟩ := pair
    by_cases he : e = new <;> cases hold <;> simp [he]

theorem claimsBoundary_stop (new : Cycle) (u : ClaimUnit) : (claimsBoundary new u).stop = markStop new u.stop := by
  unfold claimsBoundary ownClaimsBoundary settleHold; split <;> rfl

/-- The own claim counts where it is in force, the boundary's marking made (R51). -/
theorem markStop_inForce (new : Cycle) (claim : Option OwnStop) : (markStop new claim).any (·.inForce) = true ↔
    ∃ k, claim = some k ∧ (k.inForce = true ∨ k.effective = some new) := by
  cases claim <;> simp [markStop]

theorem claimsBoundary_currentHold (new : Cycle) (u : ClaimUnit) : (claimsBoundary new u).currentHold =
    if u.announcedEffective = some new then u.announced else u.currentHold := by
  unfold claimsBoundary ownClaimsBoundary settleHold
  dsimp only
  split <;> rfl

/-- Settles O26, by what the boundary makes of the own claims and of each record. -/
theorem claimsCountFromTheirEffectiveCycle : Obligations.ClaimsCountFromTheirEffectiveCycle := by
  intro new u
  constructor
  · rw [ClaimUnit.stopEffective, Bool.or_eq_true, claimsBoundary_stop, markStop_inForce, List.any_eq_true]
    refine or_congr_right ⟨?_, ?_⟩
    · rintro ⟨r, hr, hstop⟩
      obtain ⟨i, before, hi, rfl⟩ := mem_records_claimsBoundary.1 hr
      obtain ⟨h, hh⟩ := (recordBoundary_inForce new before).1 hstop
      exact ⟨i, before, h, hi, hh⟩
    · rintro ⟨i, before, h, hi, hh⟩
      exact ⟨_, mem_records_claimsBoundary.2 ⟨i, before, hi, rfl⟩, (recordBoundary_inForce new before).2 ⟨h, hh⟩⟩
  · rw [ClaimUnit.holdSet, Bool.or_eq_true, claimsBoundary_currentHold, List.any_eq_true]
    refine or_congr_right ⟨?_, ?_⟩
    · rintro ⟨r, hr, hhold⟩
      obtain ⟨i, before, hi, rfl⟩ := mem_records_claimsBoundary.1 hr
      exact ⟨i, before, hi, (recordBoundary_hold new before).1 hhold⟩
    · rintro ⟨i, before, hi, hhold⟩
      exact ⟨_, mem_records_claimsBoundary.2 ⟨i, before, hi, rfl⟩, (recordBoundary_hold new before).2 hhold⟩

end Sys2Proof.Machine
end

section
/-! PROOFS. OWN_SLOT_START (R113): the claims and the life cycle at the own slot, and the fixed part of the frame assembled. -/

namespace Sys2Proof.Machine
open Sys2Proof

/-! ## The owners' work -/

/-- A combined hold that differs from the announced value is announced, if no change is pending (R59). -/
theorem announceHold_taken {combined : Bool} {u : ClaimUnit} (c : Cycle) (h : combined ≠ u.announced ∧ u.announcedEffective = none) :
    announceHold combined c u = { u with announced := combined, announcedEffective := some (c + 2) } :=
  if_pos (by simp [h.1, h.2])

theorem announceHold_kept {combined : Bool} {u : ClaimUnit} (c : Cycle) (h : ¬ (combined ≠ u.announced ∧ u.announcedEffective = none)) :
    announceHold combined c u = u :=
  if_neg (by simpa using h)

/-- An announcement changes the announced value and its effective cycle alone. -/
theorem announceHold_eq (combined : Bool) (c : Cycle) (u : ClaimUnit) : announceHold combined c u = { u with
    announced := (announceHold combined c u).announced, announcedEffective := (announceHold combined c u).announcedEffective } := by
  unfold announceHold; split <;> rfl

section
variable {s : State}

/-- The first JOINING frame fixes the own joining-since (R94). -/
theorem State.lifeSlot_joining (h : s.life.state = .joining) :
    s.lifeSlot = { s with life := { s.life with joiningSince := some (s.life.joiningSince.getD s.slots.cycle) } } := by
  unfold State.lifeSlot; rw [h]

/-- LEAVING frames are counted up to 2 (R105). -/
theorem State.lifeSlot_leaving (h : s.life.state = .leaving) :
    s.lifeSlot = { s with life := { s.life with leavingFrames := min (s.life.leavingFrames + 1) 2 } } := by
  unfold State.lifeSlot; rw [h]; rfl

theorem State.lifeSlot_member (h : s.life.state = .member) : s.lifeSlot = s := by
  unfold State.lifeSlot; rw [h]

end

@[simp] theorem State.lifeSlot_state (s : State) : s.lifeSlot.life.state = s.life.state := by
  unfold State.lifeSlot; split <;> simp [*]

/-- The member set follows from the roster, the own number and the station state. -/
theorem State.memberSet_congr {s t : State} (hr : t.roster = s.roster) (hs : t.store = s.store) (hl : t.life.state = s.life.state) :
    t.memberSet = s.memberSet :=
  setOf_congr fun k => by simp only [State.isMember, State.rosterEntry, State.own, hr, hs, hl]; rfl

/-! ## The owners at the own-slot start, before the frame is assembled -/

/-- The owners' work of an own-slot start: the agreement unit's, the claim unit's and the life-cycle controller's. -/
def State.slotOwners (s : State) : State := s.agreementSlot.1.claimsSlot.lifeSlot

@[simp] theorem State.slotOwners_frame (s : State) :
    s.slotOwners.inReset = s.inReset ∧ s.slotOwners.bus = s.bus ∧ s.slotOwners.slots = s.slots ∧ s.slotOwners.roster = s.roster ∧
      s.slotOwners.reference = s.reference ∧ s.slotOwners.follower = s.follower ∧ s.slotOwners.port = s.port ∧
      s.slotOwners.store = s.store ∧ s.slotOwners.pending = s.pending ∧ s.slotOwners.life.state = s.life.state := by
  simp [State.slotOwners]

theorem State.slotOwners_claims (s : State) : s.slotOwners.claims =
    announceHold s.combinedHold s.slots.cycle { s.claims with stop := announceStop s.slots.cycle s.claims.stop } := by
  simp [State.slotOwners, State.claimsSlot, State.combinedHold]

/-- A set stop claim receives its effective cycle, and the claim view stays (R51). -/
theorem State.slotOwners_stop (s : State) :
    s.slotOwners.claims.stop = s.claims.stop.map (fun k => { k with effective := some (k.effective.getD (s.slots.cycle + 2)) }) ∧
      s.slotOwners.claims.view = s.claims.view := by
  rw [State.slotOwners_claims, announceHold_eq]
  exact ⟨rfl, rfl⟩

section
variable {s : State}

theorem State.slotOwners_announced (h : s.combinedHold ≠ s.claims.announced ∧ s.claims.announcedEffective = none) :
    s.slotOwners.claims.announced = s.combinedHold ∧ s.slotOwners.claims.announcedEffective = some (s.slots.cycle + 2) := by
  rw [State.slotOwners_claims,
    announceHold_taken (u := { s.claims with stop := announceStop s.slots.cycle s.claims.stop }) s.slots.cycle h]
  exact ⟨rfl, rfl⟩

theorem State.slotOwners_unannounced (h : ¬ (s.combinedHold ≠ s.claims.announced ∧ s.claims.announcedEffective = none)) :
    s.slotOwners.claims.announced = s.claims.announced ∧ s.slotOwners.claims.announcedEffective = s.claims.announcedEffective := by
  rw [State.slotOwners_claims,
    announceHold_kept (u := { s.claims with stop := announceStop s.slots.cycle s.claims.stop }) s.slots.cycle h]
  exact ⟨rfl, rfl⟩

end

/-- The life-cycle controller's part is its own, whatever the other owners did. -/
theorem State.slotOwners_life (s : State) : s.slotOwners.life = s.lifeSlot.life := by
  have h : s.agreementSlot.1.claimsSlot.life = s.life ∧ s.agreementSlot.1.claimsSlot.slots = s.slots := by simp
  unfold State.slotOwners State.lifeSlot
  rw [h.1, h.2]
  split <;> simp

theorem State.slotOwners_shown (s : State) : s.slotOwners.shownRecord = s.shownRecord := by
  simp [State.shownRecord]

theorem State.slotOwners_memberSet (s : State) : s.slotOwners.memberSet = s.memberSet := State.memberSet_congr (by simp) (by simp) (by simp)

/-! ## The frame assembled -/

/-- The frame of an own-slot start, from the owners' state once their work is done. -/
def State.slotFrame (s : State) : Frame :=
  s.slotOwners.ownFrame s.agreementSlot.2.1 s.agreementSlot.2.2.1 s.agreementSlot.2.2.2

theorem State.slotStartWork_eq (s : State) :
    s.slotStartWork = { s.slotOwners with assembled := some { frame := s.slotFrame, startedAt := s.slots.now } } := by
  have hslots : s.slotOwners.slots = s.slots := by simp
  rw [← hslots]; rfl

/-- The frame carries the own number, the cycle, the digest, the record shown and the member set (R110). -/
theorem State.slotFrame_fixed (s : State) : s.slotFrame.station = s.own ∧ s.slotFrame.cycle = s.slots.cycle ∧
    s.slotFrame.digest = s.digest ∧ s.slotFrame.reference = referencePartOf s.shownRecord ∧
    s.slotFrame.members = if s.life.state = .joining then 0 else s.memberSet := by
  simp [State.slotFrame, State.ownFrame, State.own, State.digest, State.slotOwners_shown, State.slotOwners_memberSet]

/-- The frame carries the own claims as the claim unit's work leaves them (R51, R59). -/
theorem State.slotFrame_claims (s : State) : s.slotFrame.stopCause = s.claims.stop.map (·.cause) ∧
    s.slotFrame.stopEffective = (s.slotOwners.claims.stop.bind (·.effective)).getD 0 ∧
    s.slotFrame.hold = s.slotOwners.claims.announced ∧
    s.slotFrame.holdEffective = s.slotOwners.claims.announcedEffective.getD s.slots.cycle := by
  refine ⟨?_, rfl, rfl, ?_⟩
  · simp only [State.slotFrame, State.ownFrame, s.slotOwners_stop.1, Option.map_map]
    rfl
  · simp [State.slotFrame, State.ownFrame]

section
variable {s : State}

theorem State.slotFrame_joining (h : s.life.state = .joining) : s.slotFrame.state = .joining ∧
    s.slotFrame.restartCause = some s.life.restartCause ∧
    s.slotOwners.life = { s.life with joiningSince := some (s.life.joiningSince.getD s.slots.cycle) } ∧
    s.slotFrame.joiningSince = s.life.joiningSince.getD s.slots.cycle := by
  simp [State.slotFrame, State.ownFrame, State.slotOwners_life, State.lifeSlot_joining h, h, StationState.sender]

theorem State.slotFrame_member (h : s.life.state = .member) : s.slotFrame.state = .member ∧
    s.slotFrame.restartCause = none ∧ s.slotFrame.joiningSince = 0 ∧ s.slotOwners.life = s.life := by
  simp [State.slotFrame, State.ownFrame, State.slotOwners_life, State.lifeSlot_member h, h, StationState.sender]

theorem State.slotFrame_leaving (h : s.life.state = .leaving) : s.slotFrame.state = .leaving ∧
    s.slotFrame.restartCause = none ∧ s.slotFrame.joiningSince = 0 ∧
    s.slotOwners.life = { s.life with leavingFrames := min (s.life.leavingFrames + 1) 2 } := by
  simp [State.slotFrame, State.ownFrame, State.slotOwners_life, State.lifeSlot_leaving h, h, StationState.sender]

end

/-! ## OWN_SLOT_START -/

/-- The state in which the own-slot start of the cycle has been raised (R131). -/
def State.ownSlotRaised (s : State) (timing : Timing) : State :=
  { s with slots := { s.slots with timing := some (timing.ownStarted s.own) } }

section
variable {s : State}

theorem State.takeSlotStart_taken {timing : Timing} (ht : s.slots.timing = some timing) (hl : s.life.state.transmits = true)
    (ho : timing.ownStartRaised = false) : s.takeSlotStart = (s.ownSlotRaised timing).slotStartWork := by
  unfold State.takeSlotStart
  rw [ht]
  exact if_pos ⟨hl, ho⟩

/-- Without timing, in a state that does not transmit, or once raised in the cycle, it has no effect. -/
theorem State.takeSlotStart_idle (h : s.slots.timing = none ∨ s.life.state.transmits = false ∨
    ∃ timing, s.slots.timing = some timing ∧ timing.ownStartRaised = true) : s.takeSlotStart = s := by
  unfold State.takeSlotStart
  cases ht : s.slots.timing with
  | none => rfl
  | some timing =>
    refine if_neg fun hs => ?_
    rcases h with h | h | ⟨_, h, ho⟩
    · simp [ht] at h
    · simp [h] at hs
    · obtain rfl : timing = _ := by simpa [ht] using h
      simp [ho] at hs

end

/-- Settles O51, by the owners' work and the frame assembled from what it leaves. -/
theorem ownSlotStartAssemblesTheFrame : Obligations.OwnSlotStartAssemblesTheFrame := by
  intro s hr
  rw [exec_ownSlotStart, outOfReset_free hr]
  refine ⟨fun timing ht hl ho => ?_, fun h => by rw [State.takeSlotStart_idle h]⟩
  intro c announces
  let u := s.ownSlotRaised timing
  obtain ⟨hreset, hbus, hslots, hroster, href, hfollower, hport, hstore, hpending, -⟩ := u.slotOwners_frame
  obtain ⟨hstop, hview⟩ := u.slotOwners_stop
  obtain ⟨hstation, hcycle, hdigest, hreference, hmembers⟩ := u.slotFrame_fixed
  obtain ⟨hcause, hstopEffective, hhold, hholdEffective⟩ := u.slotFrame_claims
  rw [State.takeSlotStart_taken ht hl ho, State.slotStartWork_eq]
  exact ⟨_, u.slotFrame, rfl, rfl, hslots, hstop, fun h => State.slotOwners_announced (s := u) h,
    fun h => State.slotOwners_unannounced (s := u) h, hstation, hcycle, hdigest, hreference, hmembers, hcause, hstopEffective, hhold,
    hholdEffective, fun h => State.slotFrame_joining (s := u) h, fun h => State.slotFrame_member (s := u) h,
    fun h => State.slotFrame_leaving (s := u) h, href, hroster, hfollower, hport, hbus, hview, hstore, hreset, hpending⟩

end Sys2Proof.Machine
end

section
/-! PROOFS. The configuration store (Chapter 11): the fields in their ranges, a record as its bytes, acceptance, CONFIGURE and READ_CONFIG. -/

namespace Sys2Proof.Machine
open Sys2Proof

/-! ## The fields and their ranges (Table 11-1) -/

theorem inRange_iff {w : Nat} (low high : Nat) (x : BitVec w) : inRange low high x = true ↔ low ≤ x.toNat ∧ x.toNat ≤ high :=
  decide_eq_true_iff

theorem inRange_zero_iff {w : Nat} (high : Nat) (x : BitVec w) : inRange 0 high x = true ↔ x.toNat ≤ high :=
  (inRange_iff ..).trans (and_iff_right (Nat.zero_le _))

/-- A range up to the field's greatest value has no upper bound to check. -/
theorem inRange_full_iff {w : Nat} (low : Nat) (x : BitVec w) : inRange low (2 ^ w - 1) x = true ↔ low ≤ x.toNat :=
  (inRange_iff ..).trans (and_iff_left (Nat.le_pred_of_lt x.isLt))

theorem rateCode_inRange_iff (x : BitVec 8) : inRange 1 3 x = true ↔ x = 1 ∨ x = 2 ∨ x = 3 := by
  rw [inRange_iff]; bv_omega

@[simp] theorem fieldsInRange_length (r : ConfigRecord) : (fieldsInRange r).length = 23 := rfl

/-- The check of each place is the range of the field with that index. -/
theorem fieldsInRange_getElem (r : ConfigRecord) (i : Nat) (h : i < (fieldsInRange r).length) :
    (fieldsInRange r)[i] = true ↔ FieldInRange r (i + 1) := by
  have range {w : Nat} (low high : Nat) (x : BitVec w) := inRange_iff low high x
  have upTo {w : Nat} (high : Nat) (x : BitVec w) := inRange_zero_iff high x
  match i, h with
  | 0, _ => exact rateCode_inRange_iff _
  | 1, _ => exact range _ 5000 _
  | 2, _ => exact range 1 32767 _
  | 3, _ => exact range 1 4095 _
  | 4, _ => exact range 1 4095 _
  | 5, _ => exact range 2 8 _
  | 6, _ => exact range 4 32 _
  | 7, _ => exact range 8192 32767 _
  | 8, _ => exact upTo 4095 _
  | 9, _ => exact (inRange_full_iff 0 r.ki).trans (iff_true_intro (Nat.zero_le _))
  | 10, _ => exact upTo 32767 _
  | 11, _ => exact upTo 32767 _
  | 12, _ => exact range 1 32767 _
  | 13, _ => exact range 1 8388607 _
  | 14, _ => exact decide_eq_true_iff
  | 15, _ => exact range 1 16 _
  | 16, _ => exact inRange_full_iff 1 r.ssMax
  | 17, _ => exact range 1 8 _
  | 18, _ => exact upTo 4 _
  | 19, _ => exact upTo 4 _
  | 20, _ => exact upTo 4 _
  | 21, _ => exact upTo 4 _
  | 22, _ => exact upTo 7 _
  | n + 23, h => rw [fieldsInRange_length] at h; omega

/-- No bad field: every field lies in its range. -/
theorem firstBadField_none_iff (r : ConfigRecord) : firstBadField r = none ↔ ∀ i, 1 ≤ i → i ≤ 23 → FieldInRange r i := by
  simp only [firstBadField, Option.map_eq_none_iff, List.findIdx?_eq_none_iff, List.forall_mem_iff_forall_getElem, Bool.not_eq_false']
  have hlen := fieldsInRange_length r
  constructor
  · intro h i h₁ h₂
    obtain ⟨i, rfl⟩ := Nat.exists_eq_add_of_le' h₁
    have hi : i < (fieldsInRange r).length := by omega
    exact (fieldsInRange_getElem r i hi).1 (h i hi)
  · intro h i hi
    exact (fieldsInRange_getElem r i hi).2 (h (i + 1) (by omega) (by omega))

/-- The bad field named: the first that lies outside its range. -/
theorem firstBadField_some_iff (r : ConfigRecord) (index : Nat) : firstBadField r = some index ↔
    1 ≤ index ∧ index ≤ 23 ∧ ¬ FieldInRange r index ∧ ∀ j, 1 ≤ j → j < index → FieldInRange r j := by
  simp only [firstBadField, Option.map_eq_some_iff, List.findIdx?_eq_some_iff_getElem, Bool.not_eq_true', Bool.not_eq_false]
  have hlen := fieldsInRange_length r
  constructor
  · rintro ⟨i, ⟨hi, hbad, hlow⟩, rfl⟩
    refine ⟨by omega, by omega, fun hr => ?_, fun j h₁ h₂ => ?_⟩
    · exact Bool.false_ne_true (hbad.symm.trans ((fieldsInRange_getElem r i hi).2 hr))
    · obtain ⟨j, rfl⟩ := Nat.exists_eq_add_of_le' h₁
      exact (fieldsInRange_getElem r j (by omega)).1 (hlow j (by omega))
  · rintro ⟨h₁, h₂, hbad, hlow⟩
    obtain ⟨i, rfl⟩ := Nat.exists_eq_add_of_le' h₁
    have hi : i < (fieldsInRange r).length := by omega
    refine ⟨i, ⟨hi, Bool.eq_false_iff.2 (mt (fieldsInRange_getElem r i hi).1 hbad), fun j hj => ?_⟩, rfl⟩
    exact (fieldsInRange_getElem r j (by omega)).2 (hlow _ (by omega) (by omega))

/-! ## A record as its bytes (Table 12-6) -/

/-- The two bytes of a half-word spell it. -/
theorem halfBytes_append (w : BitVec 16) : (w.extractLsb' 8 8 ++ w.extractLsb' 0 8 : BitVec 16) = w := by
  rw [BitVec.extractLsb'_append_extractLsb'_eq_extractLsb' (by rfl)]
  simp

/-- The two halves of a word spell it. -/
theorem wordHalves_append (w : BitVec 32) : (w.extractLsb' 16 16 ++ w.extractLsb' 0 16 : BitVec 32) = w := by
  rw [BitVec.extractLsb'_append_extractLsb'_eq_extractLsb' (by rfl)]
  simp

theorem recordBytes_length (r : ConfigRecord) : (recordBytes r).length = recordLength := rfl

/-- The bytes of a record spell it, every field at its offset. -/
theorem recordOfBytes_recordBytes (r : ConfigRecord) : recordOfBytes (recordBytes r) = r := by
  simp [recordOfBytes, recordBytes, linePartBytes, localPartBytes, halfBytes, wordBytes, wordAt, halfAt, byteAt, halfBytes_append,
    wordHalves_append, -BitVec.extractLsb'_extractLsb'_of_le]

/-! ## The level inputs already active at acceptance (R56) -/

/-- The raises of a run of inputs, in order. -/
def State.raiseInputs (s : State) (inputs : List (Fin 4)) : State := inputs.foldl (fun t n => t.raise (.stopInput n)) s

theorem State.raiseInputs_cons (s : State) (n : Fin 4) (inputs : List (Fin 4)) :
    s.raiseInputs (n :: inputs) = (s.raise (.stopInput n)).raiseInputs inputs := rfl

theorem State.raiseActiveInputs_eq (s : State) : s.raiseActiveInputs = s.raiseInputs s.activeInputs := rfl

/-- Raises change the own stop claim and the notices alone. -/
theorem State.raiseInputs_eq (inputs : List (Fin 4)) (s : State) : s.raiseInputs inputs = { s with
    claims := { s.claims with stop := (s.raiseInputs inputs).claims.stop }, notices := (s.raiseInputs inputs).notices } := by
  induction inputs generalizing s with
  | nil => rfl
  | cons n inputs ih => rw [State.raiseInputs_cons, ih, s.raise_eq]

/-- Raises do not read the port. -/
theorem State.raiseInputs_port (inputs : List (Fin 4)) (s : State) (p : LocalPort) :
    ({ s with port := p } : State).raiseInputs inputs = { s.raiseInputs inputs with port := p } := by
  induction inputs generalizing s with
  | nil => rfl
  | cons n inputs ih => rw [State.raiseInputs_cons, State.raise_port, ih, State.raiseInputs_cons]

/-- On a set claim each further cause is reported once, in the order of the raises. -/
theorem State.raiseInputs_set (inputs : List (Fin 4)) {s : State} {k : OwnStop} (hs : s.claims.stop = some k)
    (hd : (k.cause :: (k.reported ++ inputs.map .stopInput)).Nodup) :
    (s.raiseInputs inputs).claims.stop = some { k with reported := k.reported ++ inputs.map .stopInput } ∧
    (s.raiseInputs inputs).notices = s.noticesAfter
      (inputs.map fun m => (.causeAlso, stationNumber s.own, (StopCause.stopInput m).code, k.cause.code.setWidth 16)) := by
  induction inputs generalizing s k with
  | nil => simp [State.raiseInputs, hs]
  | cons n inputs ih =>
    have hn : ¬ (StopCause.stopInput n = k.cause ∨ StopCause.stopInput n ∈ k.reported) := by
      simp only [List.map_cons, List.nodup_cons, List.nodup_append, List.mem_append, List.mem_cons] at hd
      obtain ⟨hcause, -, -, hreported⟩ := hd
      rintro (h | h)
      · exact hcause (.inr (.inl h.symm))
      · exact hreported _ h _ (.inl rfl) rfl
    have ht := State.raise_set (.stopInput n) hs
    rw [if_neg hn] at ht
    obtain ⟨hstop, hnotices⟩ := ih (s := s.raise (.stopInput n)) (k := { k with reported := k.reported ++ [.stopInput n] })
      (by rw [ht]) (by simpa using hd)
    rw [State.raiseInputs_cons, hstop, hnotices]
    refine ⟨by simp, ?_⟩
    rw [List.map_cons, State.noticesAfter_cons, ht]
    exact State.noticesAfter_congr (by rfl) (by rfl) (by rfl) _

/-- On a clear claim the first cause sets it, and each further one is reported. -/
theorem State.raiseInputs_clear {s : State} {n : Fin 4} {more : List (Fin 4)} (hs : s.claims.stop = none) (hd : (n :: more).Nodup) :
    (s.raiseInputs (n :: more)).claims.stop =
      some { cause := .stopInput n, effective := none, inForce := false, reported := more.map .stopInput } ∧
    (s.raiseInputs (n :: more)).notices = s.noticesAfter ((.stopClaim, stationNumber s.own, (StopCause.stopInput n).code, 0) ::
      more.map fun m => (.causeAlso, stationNumber s.own, (StopCause.stopInput m).code, (StopCause.stopInput n).code.setWidth 16)) := by
  have ht := State.raise_clear (.stopInput n) hs
  obtain ⟨hstop, hnotices⟩ := State.raiseInputs_set more (s := s.raise (.stopInput n))
    (k := { cause := .stopInput n, effective := none, inForce := false, reported := [] }) (by rw [ht])
    (List.Pairwise.map StopCause.stopInput (fun _ _ h he => h (StopCause.stopInput.inj he)) hd)
  rw [State.raiseInputs_cons, hstop, hnotices]
  refine ⟨rfl, ?_⟩
  rw [State.noticesAfter_cons, ht]
  exact State.noticesAfter_congr (by rfl) (by rfl) (by rfl) _

/-- Raises leave ATTN_N as a re-examination would (R166). -/
theorem State.raiseInputs_examined (inputs : List (Fin 4)) {s : State} (h : s.examineAttention = s) :
    (s.raiseInputs inputs).examineAttention = s.raiseInputs inputs := by
  induction inputs generalizing s with
  | nil => exact h
  | cons n inputs ih =>
    rw [State.raiseInputs_cons]
    refine ih ?_
    cases hs : s.claims.stop with
    | none => rw [State.raise_clear _ hs]; rfl
    | some k =>
      rw [State.raise_set _ hs]
      split
      · exact h
      · rfl

/-! ## Acceptance (R170) -/

/-- The state in which a record has been kept and STATION_STATE posted, before the level inputs raise. -/
def State.recordKept (s : State) (r : ConfigRecord) : State :=
  let idle : State := { s with
    store := { s.store with accepted := some { record := r, digest := crc (linePartBytes r) } }
    life := { s.life with state := .idle }
    follower := { s.follower with held := none } }
  { idle with notices := idle.noticesAfter [stationStateNotice .idle .unconfigured] }

theorem State.recordKept_examined (s : State) (r : ConfigRecord) : (s.recordKept r).examineAttention = s.recordKept r := rfl

theorem State.acceptRecord_eq {s : State} (r : ConfigRecord) (h : s.life.state = .unconfigured) :
    s.acceptRecord r = (s.recordKept r).raiseInputs (s.recordKept r).activeInputs := by
  rw [← State.raiseInputs_examined _ (s.recordKept_examined r), ← State.raiseActiveInputs_eq]
  unfold State.acceptRecord
  rw [h]
  rfl

/-- The state that acceptance leaves: the record kept, and the level inputs already active raised. -/
def State.configured (s : State) (r : ConfigRecord) : State := (s.recordKept r).raiseInputs (s.recordKept r).activeInputs

theorem State.configured_eq (s : State) (r : ConfigRecord) : s.configured r = { s.recordKept r with
    claims := { s.claims with stop := (s.configured r).claims.stop }, notices := (s.configured r).notices } :=
  State.raiseInputs_eq _ _

/-- ATTN_N is as the new mask has it (R166). -/
theorem State.configured_attention (s : State) (r : ConfigRecord) :
    (s.configured r).notices.attention = attentionOf r.attentionMask (s.configured r).notices.queue := by
  have h : (s.configured r).examineAttention = s.configured r := State.raiseInputs_examined _ (s.recordKept_examined r)
  have hm : (s.configured r).attentionMask = r.attentionMask := by rw [State.configured_eq]; rfl
  rw [← hm]
  exact congrArg (·.notices.attention) h.symm

/-- With no level input active, acceptance raises nothing. -/
theorem State.configured_quiet {s : State} {r : ConfigRecord} (h : (s.recordKept r).activeInputs = []) :
    s.configured r = s.recordKept r := by
  rw [State.configured, h]; rfl

/-- On a clear claim the active inputs set it, the lowest-numbered as its cause (R56). -/
theorem State.configured_active {s : State} {r : ConfigRecord} {n : Fin 4} {more : List (Fin 4)}
    (h : (s.recordKept r).activeInputs = n :: more) (hs : s.claims.stop = none) :
    (s.configured r).claims.stop =
      some { cause := .stopInput n, effective := none, inForce := false, reported := more.map .stopInput } ∧
    (s.configured r).notices = (s.recordKept r).noticesAfter ((.stopClaim, stationNumber s.own, (StopCause.stopInput n).code, 0) ::
      more.map fun m => (.causeAlso, stationNumber s.own, (StopCause.stopInput m).code, (StopCause.stopInput n).code.setWidth 16)) := by
  have hd : (n :: more).Nodup := h ▸ (s.recordKept r).activeInputs_ascend.imp Fin.ne_of_lt
  rw [State.configured, h]
  exact State.raiseInputs_clear hs hd

theorem State.configured_cause {s : State} {r : ConfigRecord} (hs : s.claims.stop = none) :
    (s.configured r).claims.stop.map (·.cause) = (s.recordKept r).activeInputs.head?.map .stopInput := by
  cases h : (s.recordKept r).activeInputs with
  | nil => rw [State.configured_quiet h, show (s.recordKept r).claims.stop = none from hs]; rfl
  | cons n more => rw [(State.configured_active h hs).1]; rfl

/-- Acceptance does not read the port. -/
theorem State.configured_port (s : State) (p : LocalPort) (r : ConfigRecord) :
    ({ s with port := p } : State).configured r = { s.configured r with port := p } :=
  State.raiseInputs_port _ (s.recordKept r) p

/-- A record with every field in range is accepted (R169). -/
theorem State.configure_accepted {s : State} {r : ConfigRecord} (h : s.life.state = .unconfigured)
    (hr : ∀ i, 1 ≤ i → i ≤ 23 → FieldInRange r i) : s.configure r = (s.configured r, .ok, []) := by
  unfold State.configure
  rw [if_pos h, (firstBadField_none_iff r).2 hr, State.acceptRecord_eq r h]
  rfl

theorem State.configure_bad {s : State} {r : ConfigRecord} {index : Nat} (h : s.life.state = .unconfigured)
    (hr : firstBadField r = some index) : s.configure r = (s, .badConfig, [BitVec.ofNat 8 index]) := by
  unfold State.configure
  rw [if_pos h, hr]

theorem State.configure_refused {s : State} (r : ConfigRecord) (h : s.life.state ≠ .unconfigured) :
    s.configure r = (s, .wrongState, []) := if_neg h

/-! ## READ_CONFIG (R172) -/

theorem State.readConfig_refused {s : State} (h : s.life.state = .unconfigured) : s.readConfig = (.wrongState, []) := if_pos h

theorem State.readConfig_read {s : State} {a : Accepted} (h : s.life.state ≠ .unconfigured) (ha : s.store.accepted = some a) :
    s.readConfig = (.ok, [numberByte s.own] ++ halfBytes a.digest ++ recordBytes a.record) := by
  simp [State.readConfig, h, State.digest, State.cfg, ha]

/-- CONFIGURE with an accepted record: the whole next state. -/
theorem exec_configure_accepted {s : State} {r : ConfigRecord} (ht : s.takesTransaction = true) (hu : s.life.state = .unconfigured)
    (hr : ∀ i, 1 ≤ i → i ≤ 23 → FieldInRange r i) : exec (.configure r) s = .next { s.answered 0x01 .ok [] with
      store := { s.store with accepted := some { record := r, digest := crc (linePartBytes r) } }
      life := { s.life with state := .idle }
      claims := { s.claims with stop := (s.configured r).claims.stop }
      follower := { s.follower with held := none }
      notices := (s.configured r).notices } := by
  rw [exec_configure, State.takeRequest_taken _ _ ht, State.configure_accepted (s := s.deselected) hu hr,
    show s.deselected.configured r = _ from s.configured_port s.deselected.port r, State.configured_eq]
  rfl

/-- Settles O11, by the outcomes of CONFIGURE and of READ_CONFIG. -/
theorem theConfigurationIsTakenAndRead : Obligations.TheConfigurationIsTakenAndRead := by
  refine ⟨⟨fun r s ht => ⟨fun hu hr => ?accepted, fun hu index hb => ?bad, fun hu => ?refused⟩,
    fun r => ⟨firstBadField_none_iff r, firstBadField_some_iff r⟩⟩, fun s ht => ⟨fun hu => ?unread, fun hu a ha => ?read⟩⟩
  case accepted =>
    refine ⟨_, exec_configure_accepted ht hu hr, rfl, s.configured_attention r, fun hs => ?cause, ?raises⟩
    case cause => exact (State.configured_cause hs).trans (congrArg (Option.map _) List.head?_filter)
    case raises =>
      intro active idle posted raised
      have hraised : raised = { s.configured r with port := (s.answered 0x01 .ok []).port } :=
        State.raiseInputs_port active (s.recordKept r) _
      refine ⟨by rw [hraised], by rw [hraised], fun ha => ?_, fun n more ha hs => ?_⟩
      · have hquiet : s.configured r = s.recordKept r := State.configured_quiet ha
        exact ⟨congrArg (·.claims.stop) hquiet, congrArg (·.notices) hquiet⟩
      · obtain ⟨hstop, hnotices⟩ := State.configured_active ha hs
        exact ⟨hstop, hnotices.trans (State.noticesAfter_congr (t := s.recordKept r) (s := posted) rfl rfl rfl _)⟩
  case bad => rw [exec_configure, State.takeRequest_unchanged ht (State.configure_bad (s := s.deselected) hu hb)]
  case refused => rw [exec_configure, State.takeRequest_unchanged ht (State.configure_refused (s := s.deselected) r hu)]
  case unread => rw [exec_readConfig, State.takeRequest_read _ _ ht, State.readConfig_refused (s := s.deselected) hu]
  case read =>
    refine ⟨recordBytes a.record, ?_, ?_, recordOfBytes_recordBytes _⟩
    · rw [exec_readConfig, State.takeRequest_read _ _ ht, State.readConfig_read (s := s.deselected) hu ha]
      rfl
    · simp [recordBytes_length, recordLength, halfBytes]

end Sys2Proof.Machine
end

section
/-! PROOFS. Missed slots (R76, R131, R133): the close of a slot, the closes that a re-alignment raises at once, and the current slot by the
clock. -/

namespace Sys2Proof.Machine
open Sys2Proof

/-! ## The count of one slot -/

/-- An entry at the close of its slot (R76). -/
def RosterEntry.counted (e : RosterEntry) (limit : Nat) (heard : Bool) : RosterEntry :=
  if heard = true then { e with missed := 0 }
  else if e.state = .absent then e
  else { e with missed := min (e.missed + 1) limit }

/-- The roster at the close of slot k (R76): the own entry is not touched. -/
def Roster.counted (r : Roster) (own : Station) (limit : Nat) (k : Station) (heard : Bool) : Roster :=
  if k = own then r else { r with entries := r.entries.set k (r.entries[k].counted limit heard) }

/-- An empty slot of an ABSENT entry leaves the roster. -/
theorem Roster.counted_eq (r : Roster) (own : Station) (limit : Nat) (k : Station) (heard : Bool) : r.counted own limit k heard =
    if k = own then r
    else if heard = true then { r with entries := r.entries.set k { r.entries[k] with missed := 0 } }
    else if r.entries[k].state = .absent then r
    else { r with entries := r.entries.set k { r.entries[k] with missed := min (r.entries[k].missed + 1) limit } } := by
  unfold Roster.counted RosterEntry.counted
  split
  · rfl
  · split
    · rfl
    · split
      · simp
      · rfl

@[simp] theorem Roster.counted_heard (r : Roster) (own : Station) (limit : Nat) (k : Station) (heard : Bool) :
    (r.counted own limit k heard).heard = r.heard := by
  unfold Roster.counted; split <;> rfl

theorem Roster.counted_entry (r : Roster) (own : Station) (limit : Nat) (k : Station) (heard : Bool) (i : Station) :
    (r.counted own limit k heard).entries[i] =
      if i = k ∧ i ≠ own then r.entries[i].counted limit heard else r.entries[i] := by
  unfold Roster.counted
  by_cases hk : k = own
  · rw [if_pos hk, if_neg (by rintro ⟨rfl, hi⟩; exact hi hk)]
  · rw [if_neg hk]
    by_cases hi : i = k
    · subst hi; simp [hk]
    · have hv : k.val ≠ i.val := fun h => hi (Fin.ext h.symm)
      simp [hi, hv]

theorem State.countSlot_eq (s : State) (k : Station) (heard : Bool) :
    s.countSlot k heard = { s with roster := s.roster.counted s.own s.missedLimit k heard } := by
  rw [Roster.counted_eq]
  unfold State.countSlot
  split
  · rfl
  · dsimp only
    split
    · rfl
    · split <;> rfl

/-! ## The close of one slot -/

section
variable {s : State} {k : Station} {t : Timing}

/-- The close of slot 16 that a boundary has overtaken is counted by the ended cycle (R131). -/
theorem State.closeSlot_late {heard : Bool} (ht : s.slots.timing = some t) (hl : t.lateClose = some heard) (hk : k.val = 15) :
    s.closeSlot k = { s with
      slots := { s.slots with timing := some { t with lateClose := none } }
      roster := s.roster.counted s.own s.missedLimit k heard } := by
  simp only [State.closeSlot, ht, hl, if_pos hk]
  exact State.countSlot_eq _ k heard

/-- Any other close is raised once a cycle (R131). -/
theorem State.closeSlot_once (ht : s.slots.timing = some t) (hl : t.lateClose = none ∨ k.val ≠ 15) : s.closeSlot k =
    if contains t.closesRaised k = true then s else { s with
      slots := { s.slots with timing := some (t.closed k) }
      roster := s.roster.counted s.own s.missedLimit k (contains s.roster.heard k) } := by
  unfold State.closeSlot
  rw [ht]
  cases hlate : t.lateClose with
  | none => simp only [hlate, State.countSlot_eq]; rfl
  | some heard =>
    have hk : k.val ≠ 15 := hl.resolve_left (by simp [hlate])
    simp only [hlate, if_neg hk, State.countSlot_eq]; rfl

theorem State.closeSlot_raised (ht : s.slots.timing = some t) (hl : t.lateClose = none ∨ k.val ≠ 15)
    (hc : contains t.closesRaised k = true) : s.closeSlot k = s := by
  rw [State.closeSlot_once ht hl, if_pos hc]

theorem State.closeSlot_open (ht : s.slots.timing = some t) (hl : t.lateClose = none ∨ k.val ≠ 15)
    (hc : contains t.closesRaised k = false) : s.closeSlot k = { s with
      slots := { s.slots with timing := some (t.closed k) }
      roster := s.roster.counted s.own s.missedLimit k (contains s.roster.heard k) } := by
  rw [State.closeSlot_once ht hl, if_neg (by simp [hc])]

end

theorem nextSlot_val (k : Station) : (nextSlot k).val = min (k.val + 1) 15 := by
  unfold nextSlot
  split
  · next h => exact (Nat.min_eq_left (by omega)).symm
  · next h => exact (by omega : k.val = min (k.val + 1) 15)

/-- The close of a slot that is not past moves the current slot to the next (R130). -/
theorem Timing.closed_currentSlot {t : Timing} {k : Station} (h : t.currentSlot.val ≤ k.val) :
    (t.closed k).currentSlot.val = min (k.val + 1) 15 := by
  rw [Timing.closed, if_pos h, nextSlot_val]

/-- Settles O45, by the late close of slot 16 and the close of any other slot, raised before or not. -/
theorem slotCloseCountsTheSlot : Obligations.SlotCloseCountsTheSlot := by
  intro s k timing hr ht entry counted after
  have hcounted (heard : Bool) : s.roster.counted s.own s.missedLimit k heard = counted heard := Roster.counted_eq ..
  rw [exec_slotClose, outOfReset_free hr]
  refine ⟨fun heard hl hk => ?_, fun hl => ⟨fun hc => ?_, fun hc => ?_⟩⟩
  · rw [State.closeSlot_late ht hl hk, hcounted]
  · rw [State.closeSlot_raised ht hl hc]
  · refine ⟨timing.closed k, ?_, contains_setInsert _ _, rfl, rfl, rfl, rfl, Timing.closed_currentSlot⟩
    rw [State.closeSlot_open ht hl hc, hcounted]

/-! ## The closes of a re-alignment -/

/-- Closes in a row mark their slots and move the current slot. -/
theorem Timing.closes_eq (l : List Station) (t : Timing) : l.foldl Timing.closed t =
    { t with closesRaised := l.foldl setInsert t.closesRaised, currentSlot := (l.foldl Timing.closed t).currentSlot } := by
  induction l generalizing t with
  | nil => rfl
  | cons j l ih => exact ih (t.closed j)

/-- The roster after the closes of these slots, in this order. -/
def Roster.countedAll (r : Roster) (own : Station) (limit : Nat) (l : List Station) : Roster :=
  l.foldl (fun r j => r.counted own limit j (contains r.heard j)) r

@[simp] theorem Roster.countedAll_heard (r : Roster) (own : Station) (limit : Nat) (l : List Station) :
    (r.countedAll own limit l).heard = r.heard := by
  induction l generalizing r with
  | nil => rfl
  | cons j l ih => exact (ih _).trans (Roster.counted_heard ..)

/-- Closes of different slots count each of their entries once. -/
theorem Roster.countedAll_entry (own : Station) (limit : Nat) {l : List Station} (hl : l.Nodup) (r : Roster) (i : Station) :
    (r.countedAll own limit l).entries[i] =
      if i ∈ l ∧ i ≠ own then r.entries[i].counted limit (contains r.heard i) else r.entries[i] := by
  induction l generalizing r with
  | nil => simp [Roster.countedAll]
  | cons j l ih =>
    obtain ⟨hj, hl⟩ := List.nodup_cons.1 hl
    have hstep : (r.countedAll own limit (j :: l)).entries[i] =
        ((r.counted own limit j (contains r.heard j)).countedAll own limit l).entries[i] := rfl
    rw [hstep, ih hl, Roster.counted_entry, Roster.counted_heard]
    by_cases hi : i = j
    · subst hi; simp [hj]
    · simp [hi]

/-- Closes not yet raised, of slots before slot 16, in a row. -/
theorem State.closes_eq {l : List Station} {s : State} {t : Timing} (ht : s.slots.timing = some t) (hn : l.Nodup)
    (hl : ∀ j ∈ l, j.val ≠ 15 ∧ contains t.closesRaised j = false) : l.foldl State.closeSlot s = { s with
      slots := { s.slots with timing := some (l.foldl Timing.closed t) }
      roster := s.roster.countedAll s.own s.missedLimit l } := by
  induction l generalizing s t with
  | nil => show s = { s with slots := { s.slots with timing := some t } }; rw [← ht]
  | cons j l ih =>
    obtain ⟨hj, hn⟩ := List.nodup_cons.1 hn
    obtain ⟨hj15, hjc⟩ := hl j List.mem_cons_self
    have hrest : ∀ i ∈ l, i.val ≠ 15 ∧ contains (t.closed j).closesRaised i = false := fun i hi => by
      obtain ⟨hi15, hic⟩ := hl i (List.mem_cons_of_mem j hi)
      have hij : i ≠ j := fun h => hj (h ▸ hi)
      exact ⟨hi15, by simp [Timing.closed, hic, hij]⟩
    rw [List.foldl_cons, State.closeSlot_open ht (.inr hj15) hjc, ih rfl hn hrest]
    rfl

theorem Timing.mem_closesAtRealign (t : Timing) (j k : Station) :
    j ∈ t.closesAtRealign k ↔ (t.currentSlot ≤ j ∧ j < k) ∧ contains t.closesRaised j = false := by
  simp only [Timing.closesAtRealign, List.mem_filter, mem_allStations, true_and, Bool.and_eq_true, decide_eq_true_eq, Bool.not_eq_true',
    Fin.le_def, Fin.lt_def]

theorem Timing.closesAtRealign_nodup (t : Timing) (k : Station) : (t.closesAtRealign k).Nodup := (List.nodup_finRange 16).filter _

/-- Without timing there is nothing to re-align. -/
theorem State.realign_none {s : State} (k : Station) (e bytes : Nat) (h : s.slots.timing = none) : s.realign k e bytes = s := by
  simp [State.realign, h]

/-- The timing after a re-alignment on a frame of station k, with the closes that it raises. -/
def Timing.realignedAt (t : Timing) (own k : Station) (start : Int) : Timing :=
  { t with
    refStart := start, refSlot := k, currentSlot := k
    closesRaised := (t.closesAtRealign k).foldl setInsert t.closesRaised
    ownStartRaised := t.ownStartRaised || (decide (t.currentSlot < own) && decide (own ≤ k)) }

/-- A re-alignment, whole (R133). -/
theorem State.realign_eq {s : State} {t : Timing} (k : Station) (e bytes : Nat) (ht : s.slots.timing = some t) :
    s.realign k e bytes = { s with
      slots := { s.slots with timing := some (t.realignedAt s.own k (slotStartOf s.cfg.rateCode e bytes)) }
      roster := s.roster.countedAll s.own s.missedLimit (t.closesAtRealign k) } := by
  have hopen : ∀ j ∈ t.closesAtRealign k, j.val ≠ 15 ∧ contains t.closesRaised j = false := fun j hj => by
    obtain ⟨⟨_, hjk⟩, hc⟩ := (t.mem_closesAtRealign j k).1 hj
    exact ⟨fun h => by have := Fin.lt_def.1 hjk; omega, hc⟩
  simp only [State.realign, ht]
  rw [State.closes_eq ht (t.closesAtRealign_nodup k) hopen]
  simp only [Option.getD_some]
  rw [Timing.closes_eq]
  rfl

theorem Timing.realignedAt_slotStart (t : Timing) (own k : Station) (start : Int) (slotLength : Nat) :
    (t.realignedAt own k start).slotStart slotLength k = start := by
  simp [Timing.slotStart, Timing.realignedAt]

theorem Timing.realignedAt_closes (t : Timing) (own k : Station) (start : Int) (i : Station) :
    contains (t.realignedAt own k start).closesRaised i =
      (contains t.closesRaised i || (decide (t.currentSlot ≤ i) && decide (i < k))) := by
  rw [Timing.realignedAt, contains_foldl_setInsert]
  cases hc : contains t.closesRaised i <;> simp [Timing.mem_closesAtRealign, hc]

/-! ## The current slot by the clock -/

theorem allStations_length : allStations.length = 16 := List.length_finRange

/-- The clock moves the current slot and nothing else of the timing. -/
theorem Timing.passed_eq (t : Timing) (slotLength : Nat) (now : Int) :
    t.passed slotLength now = { t with currentSlot := (t.passed slotLength now).currentSlot } := by
  simp only [Timing.passed]

/-- The current slot once the clock has looked at slot j: the next one, where j is the current slot and is over (R130). -/
def Timing.pastSlot (t : Timing) (slotLength : Nat) (now : Int) (current j : Station) : Station :=
  if current = j ∧ t.isOver slotLength now j then nextSlot j else current

theorem Timing.slotAt_eq (t : Timing) (slotLength : Nat) (now : Int) :
    t.slotAt slotLength now = allStations.foldl (t.pastSlot slotLength now) t.currentSlot := rfl

section
variable {t : Timing} {slotLength : Nat} {now : Int}

theorem Timing.isOver_iff (j : Station) : t.isOver slotLength now j = true ↔
    contains t.closesRaised j = true ∧ t.slotStart slotLength j + slotLength ≤ now := by
  simp [Timing.isOver]

theorem Timing.pastSlot_over {j : Station} (h : t.isOver slotLength now j = true) : t.pastSlot slotLength now j j = nextSlot j :=
  if_pos ⟨rfl, h⟩

theorem Timing.pastSlot_held {j : Station} (h : t.isOver slotLength now j = false) : t.pastSlot slotLength now j j = j := by
  simp [Timing.pastSlot, h]

theorem Timing.pastSlot_other {current j : Station} (h : current ≠ j) : t.pastSlot slotLength now current j = current :=
  if_neg fun hc => h hc.1

/-- The current slot once the clock has looked at the first n slots, where those from the current one up to k are over and slot k is not. -/
theorem Timing.slotAt_take {k : Station} (hk : t.currentSlot ≤ k)
    (hover : ∀ j, t.currentSlot ≤ j → j < k → t.isOver slotLength now j = true) (hstop : t.isOver slotLength now k = false)
    {n : Nat} (hn : n ≤ 16) :
    ((allStations.take n).foldl (t.pastSlot slotLength now) t.currentSlot).val = max t.currentSlot.val (min n k.val) := by
  have hck : t.currentSlot.val ≤ k.val := hk
  induction n with
  | zero => simp
  | succ n ih =>
    have hlt : n < allStations.length := allStations_length ▸ hn
    have hslot : allStations[n] = (⟨n, hn⟩ : Station) := List.getElem_finRange hlt
    rw [List.take_succ_eq_append_getElem hlt, List.foldl_append, hslot, List.foldl_cons, List.foldl_nil]
    have hv := ih (by omega)
    generalize (allStations.take n).foldl (t.pastSlot slotLength now) t.currentSlot = v at hv ⊢
    by_cases hvn : v = ⟨n, hn⟩
    · subst hvn
      simp only at hv
      by_cases hnk : n < k.val
      · rw [Timing.pastSlot_over (hover ⟨n, hn⟩ (Fin.le_def.2 (by simp only; omega)) hnk), nextSlot_val]
        simp only; omega
      · have hkn : k = ⟨n, hn⟩ := Fin.ext (by simp only; omega)
        rw [Timing.pastSlot_held (hkn ▸ hstop)]
        simp only; omega
    · have hne : v.val ≠ n := fun h => hvn (Fin.ext h)
      rw [Timing.pastSlot_other hvn]
      omega

/-- The clock moves the current slot past each slot that is over, and no further (R130). -/
theorem Timing.passed_currentSlot {k : Station} (hk : t.currentSlot ≤ k)
    (hover : ∀ j, t.currentSlot ≤ j → j < k → t.isOver slotLength now j = true) (hstop : t.isOver slotLength now k = false) :
    (t.passed slotLength now).currentSlot = k := by
  have hall : allStations.take 16 = allStations := List.take_of_length_le (Nat.le_of_eq allStations_length)
  have hck : t.currentSlot.val ≤ k.val := hk
  have h := Timing.slotAt_take hk hover hstop (Nat.le_refl 16)
  rw [hall, ← Timing.slotAt_eq] at h
  exact Fin.ext (h.trans (by omega))

end

/-- Settles O44, from the re-alignment whole, its closes entry by entry, and the current slot by the clock. -/
theorem reAlignmentMovesTheTiming : Obligations.ReAlignmentMovesTheTiming := by
  refine ⟨fun s k e bytes => ⟨State.realign_none k e bytes, ?_⟩, fun t slotLength now => ?_⟩
  · intro timing ht skipped
    rw [State.realign_eq k e bytes ht]
    refine ⟨_, rfl, rfl, Timing.realignedAt_slotStart .., Timing.realignedAt_closes _ _ _ _, rfl, rfl, rfl,
      Roster.countedAll_heard .., fun i => ?_⟩
    have hmem : i ∈ timing.closesAtRealign k ∧ i ≠ s.own ↔
        skipped i = true ∧ contains timing.closesRaised i = false ∧ i ≠ s.own := by
      simp [skipped, Timing.mem_closesAtRealign, and_assoc]
    exact (Roster.countedAll_entry _ _ (timing.closesAtRealign_nodup k) _ i).trans (ite_congr (propext hmem) (fun _ => rfl) (fun _ => rfl))
  · intro isOver
    refine ⟨t.passed_eq slotLength now, fun k hk hover hstop => ?_⟩
    exact Timing.passed_currentSlot hk (fun j hj hjk => (Timing.isOver_iff j).2 (hover j hj hjk))
      (Bool.eq_false_iff.2 fun h => hstop ((Timing.isOver_iff k).1 h))

end Sys2Proof.Machine
end

section
/-! PROOFS. Frames at a MEMBER or LEAVING station (R72 to R75, R117 to R119): those that no owner takes, those from members that count as
heard, and those from outside the member set. -/

namespace Sys2Proof.Machine
open Sys2Proof

/-! ## Handing on, by the receiver's state -/

section
variable {s : State} {f : Frame} {e bytes : Nat} {order : PartOrder}

/-- A silent station that is not LISTENING takes no frame, its own number's included (R103, Table 5-4). -/
theorem State.handOn_silent (h : s.life.state = .unconfigured ∨ s.life.state = .idle ∨ s.life.state = .isolated) :
    s.handOn f e bytes order = s := by
  unfold State.handOn State.takeOwnNumber
  rcases h with h | h | h <;> simp [h]

/-- A member's frame at a station with a roster (R72). -/
theorem State.handOn_fromMember (hf : f.station ≠ s.own) (h : s.life.state = .member ∨ s.life.state = .leaving)
    (hm : s.isMember f.station = true) : s.handOn f e bytes order = s.takeFromMember f e bytes order := by
  rcases h with h | h <;> simp [State.handOn, hf, h, hm]

/-- A frame from outside the set at a MEMBER (R75). -/
theorem State.handOn_fromOutside (hf : f.station ≠ s.own) (h : s.life.state = .member) (hm : s.isMember f.station = false) :
    s.handOn f e bytes order = s.takeFromOutside f e bytes := by
  simp [State.handOn, hf, h, hm]

/-- A frame from outside the set at a LEAVING station (R118). -/
theorem State.handOn_outsideLeaving (hf : f.station ≠ s.own) (h : s.life.state = .leaving) (hm : s.isMember f.station = false) :
    s.handOn f e bytes order = s := by
  simp [State.handOn, hf, h, hm]

theorem State.isMemberFrame_iff (s : State) (f : Frame) :
    s.isMemberFrame f = true ↔ f.state = .member ∧ f.digest = s.digest ∧ f.cycle = s.slots.cycle := by
  simp [State.isMemberFrame, and_assoc]

/-! ## A member's frame, by its count and digest -/

/-- Another cycle count is reported once (R73). -/
theorem State.takeFromMember_otherCycle (hc : f.cycle ≠ s.slots.cycle) : s.takeFromMember f e bytes order =
    if s.roster.entries[f.station].cycleMismatch = true then s else { s with
      roster := { s.roster with
        entries := s.roster.entries.set f.station { s.roster.entries[f.station] with cycleMismatch := true } }
      notices := s.noticesAfter [(.cycleMismatch, stationNumber f.station, 0, f.cycle)] } := by
  simp only [State.takeFromMember, if_pos hc]
  rfl

/-- Another digest with the own count (R74). -/
theorem State.takeFromMember_otherDigest (hc : f.cycle = s.slots.cycle) (hd : f.digest ≠ s.digest) :
    s.takeFromMember f e bytes order = s := by
  simp [State.takeFromMember, hc, hd]

/-- A MEMBER or LEAVING frame with the own count and digest (R72 step 4, R118). -/
theorem State.takeFromMember_heard (hc : f.cycle = s.slots.cycle) (hd : f.digest = s.digest) (hj : f.state ≠ .joining) :
    s.takeFromMember f e bytes order =
      let t := (((s.realign f.station e bytes).hear f true).setCycleMismatch f.station false).scheduleLeave f
      if s.life.state = .member then (t.takeEvidence f).takeParts f order else t.takeAgreementPart f := by
  simp [State.takeFromMember, hc, hd, hj]

/-! ## A frame from outside the set -/

/-- A JOINING frame with the own digest and another count is not heard (R75). -/
theorem State.takeFromOutside_otherCycle (hd : f.digest = s.digest) (hj : f.state = .joining) (hc : f.cycle ≠ s.slots.cycle) :
    s.takeFromOutside f e bytes = s := by
  simp [State.takeFromOutside, hd, hj, hc]

/-- Another digest, of a station known for it (R75 step 1). -/
theorem State.takeFromOutside_mismatchAgain (hd : f.digest ≠ s.digest) (he : s.roster.entries[f.station].state = .mismatch) :
    s.takeFromOutside f e bytes = s.hear f (s.inSlotOf f.station) := by
  simp only [State.takeFromOutside, if_pos hd, if_pos he]

/-- Another digest, found first (R75 step 1). -/
theorem State.takeFromOutside_mismatch (hd : f.digest ≠ s.digest) (he : s.roster.entries[f.station].state ≠ .mismatch) :
    s.takeFromOutside f e bytes =
      ((s.hear f (s.inSlotOf f.station)).setOutside f.station .mismatch).post .configMismatch (stationNumber f.station) 0 f.digest := by
  simp only [State.takeFromOutside, if_pos hd, if_neg he]

/-- A MEMBER or LEAVING frame with the own digest, of a station known as FOREIGN (R75 step 4). -/
theorem State.takeFromOutside_foreignAgain (hd : f.digest = s.digest) (hj : f.state ≠ .joining)
    (he : s.roster.entries[f.station].state = .foreign) :
    s.takeFromOutside f e bytes = (s.hear f (s.inSlotOf f.station)).islandRule f e bytes := by
  simp only [State.takeFromOutside, if_neg (c := f.digest ≠ s.digest) (· hd), if_neg hj, if_pos he]

/-- A MEMBER or LEAVING frame with the own digest, of a station not yet FOREIGN (R75 step 4). -/
theorem State.takeFromOutside_foreign (hd : f.digest = s.digest) (hj : f.state ≠ .joining)
    (he : s.roster.entries[f.station].state ≠ .foreign) : s.takeFromOutside f e bytes =
      ((s.hear f (s.inSlotOf f.station)).setOutside f.station .foreign).islandRule f e bytes := by
  simp only [State.takeFromOutside, if_neg (c := f.digest ≠ s.digest) (· hd), if_neg hj, if_neg he]

end

/-! ## Frames that no owner takes -/

/-- At a station that takes no valid frame, what was received whole leaves the bus port and nothing else changes. -/
theorem State.receiveWhole_untaken {s : State} (order : PartOrder) {r : Receipt} {e : Nat} (hr : s.bus.receipt = some r)
    (he : r.endTime = some e) (h : ∀ f, s.frameTaken.handOn f e r.bytes.length order = s.frameTaken) :
    s.receiveWhole order = s.frameTaken := by
  by_cases hc : crcAgrees r.bytes = true
  · cases hv : validFrame r.bytes with
    | none => exact State.receiveWhole_invalid order hr he (.inr hv)
    | some f => exact (State.receiveWhole_valid order hr he hc hv).trans (h f)
  · exact State.receiveWhole_invalid order hr he (.inl (Bool.eq_false_iff.2 hc))

/-- RECEIVED_WHOLE of another number's valid frame leaves what handing it on leaves. -/
theorem WholeFrame.exec_next {s t : State} {r : Receipt} {e : Nat} {f : Frame} (h : WholeFrame s r e f) (order : PartOrder)
    (ht : s.frameTaken.handOn f e r.bytes.length order = t) : Machine.exec (.receivedWhole order) s = .next t :=
  (h.exec order).trans (congrArg _ ht)

/-- Settles O35, by the receiver's state and, for a member's frame, its count and digest. -/
theorem framesThatReachNoOwner : Obligations.FramesThatReachNoOwner := by
  refine ⟨?noOwner, ?notHeard⟩
  case noOwner =>
    intro s order hr taken
    have hexec {t : State} (ht : s.receiveWhole order = t) : exec (.receivedWhole order) s = .next t := by
      rw [exec_receivedWhole, outOfReset_free hr, ht]
    refine ⟨fun h => hexec (State.receiveWhole_none order h), fun r e hrec he =>
      ⟨fun h => hexec (State.receiveWhole_invalid order hrec he h), fun h => ?silent, fun f hcrc hv hj hown hn => ?joining,
        fun f hcrc hv hown hm => ?outside⟩⟩
    case silent => exact hexec (State.receiveWhole_untaken order hrec he fun f => State.handOn_silent (s := s.frameTaken) h)
    case joining =>
      have hmf : ¬ s.frameTaken.isMemberFrame f = true := fun h => hn ((State.isMemberFrame_iff _ f).1 h)
      have hw : WholeFrame s r e f := ⟨hr, hrec, he, hcrc, hv, hown⟩
      exact hw.exec_next order ((State.handOn_joining (s := s.frameTaken) hown hj).trans (if_neg hmf))
    case outside =>
      have hw : WholeFrame s r e f := ⟨hr, hrec, he, hcrc, hv, hown⟩
      exact ⟨fun hl => hw.exec_next order (State.handOn_outsideLeaving (s := s.frameTaken) hown hl hm),
        fun hl hj hd hc => hw.exec_next order ((State.handOn_fromOutside (s := s.frameTaken) hown hl hm).trans
          (State.takeFromOutside_otherCycle (s := s.frameTaken) hd hj hc))⟩
  case notHeard =>
    intro s order r e f hr hl hrec he hcrc hv hown hm taken entry
    have hexec {t : State} (ht : s.frameTaken.takeFromMember f e r.bytes.length order = t) :
        exec (.receivedWhole order) s = .next t :=
      (⟨hr, hrec, he, hcrc, hv, hown⟩ : WholeFrame s r e f).exec_next order
        ((State.handOn_fromMember (s := s.frameTaken) hown hl hm).trans ht)
    refine ⟨fun hc hf => hexec ?_, fun hc hf => hexec ?_, fun hc hd => hexec ?_⟩
    · exact (State.takeFromMember_otherCycle (s := s.frameTaken) hc).trans (if_pos hf)
    · rw [State.takeFromMember_otherCycle (s := s.frameTaken) hc, State.noticesAfter_congr (s := s) (t := s.frameTaken) rfl rfl rfl]
      exact if_neg (Bool.eq_false_iff.1 hf)
    · exact State.takeFromMember_otherDigest (s := s.frameTaken) hc hd

/-! ## A member's frame that counts as heard -/

theorem State.hear_eq (s : State) (f : Frame) (ownSlot : Bool) : s.hear f ownSlot =
    s.heardAs f.station { s.roster.entries[f.station] with lastHeard := s.slots.cycle, digestHeard := f.digest } ownSlot := by
  cases ownSlot <;> rfl

/-- The entry heard last in a row of changes to one station's entry stands. -/
theorem State.heardAs_setEntry (s : State) (k : Station) (a b : RosterEntry) (inItsSlot : Bool) :
    (s.heardAs k a inItsSlot).setEntry k b = s.heardAs k b inItsSlot := by
  simp [State.heardAs, State.setEntry]

theorem State.heardAs_entry (s : State) (k : Station) (a : RosterEntry) (inItsSlot : Bool) :
    (s.heardAs k a inItsSlot).roster.entries[k] = a := by
  simp [State.heardAs]

/-- A heard frame of a member ends a cycle mismatch, and a LEAVING one sets the leave due cycle if none is set (R73, R79). -/
theorem State.heardFromMember_eq (s : State) (f : Frame) : ((s.hear f true).setCycleMismatch f.station false).scheduleLeave f =
    s.heardAs f.station { s.roster.entries[f.station] with
      lastHeard := s.slots.cycle, digestHeard := f.digest, cycleMismatch := false
      leaveDue := if f.state = .leaving then some (s.roster.entries[f.station].leaveDue.getD (s.slots.cycle + 2))
        else s.roster.entries[f.station].leaveDue } true := by
  rw [State.hear_eq, State.setCycleMismatch, State.heardAs_entry, State.heardAs_setEntry, State.scheduleLeave]
  by_cases hl : f.state = .leaving
  · simp only [if_pos hl]
    rw [State.heardAs_entry, State.heardAs_setEntry]
    rfl
  · simp only [if_neg hl]

/-- The owners' parts one after another, in the order that the command gives (R118). -/
theorem State.takeParts_eq (s : State) (f : Frame) (order : PartOrder) : s.takeParts f order =
    ((if order.referenceFirst = true then [(State.takeStopPart · f), (State.takeReferencePart · f), (State.takeHoldPart · f)]
      else [(State.takeStopPart · f), (State.takeHoldPart · f), (State.takeReferencePart · f)]).insertIdx
        order.agreementPlace.val (State.takeAgreementPart · f)).foldl (fun t part => part t) s := by
  obtain ⟨referenceFirst, place⟩ := order
  match place with
  | 0 | 1 | 2 | 3 => cases referenceFirst <;> rfl

/-- Settles O38, from the heard entry and the order of the parts. -/
theorem heardFramesReachTheirOwners : Obligations.HeardFramesReachTheirOwners := by
  intro s order r e f hw hm hc hd hj aligned entry heard
  obtain ⟨-, -, -, hlife, -, -, -, -, -, -, hstore, -⟩ := s.frameTaken.realign_frame f.station e r.bytes.length
  have hheard : ((aligned.hear f true).setCycleMismatch f.station false).scheduleLeave f = heard := by
    rw [State.heardFromMember_eq, show aligned.slots.cycle = s.slots.cycle from State.realign_cycle ..]
  have htaken : s.frameTaken.takeFromMember f e r.bytes.length order =
      if s.life.state = .member then (heard.takeEvidence f).takeParts f order else heard.takeAgreementPart f := by
    rw [State.takeFromMember_heard (s := s.frameTaken) hc hd hj, hheard]
    rfl
  refine ⟨fun hl => hw.exec_next order ?_, fun hl => ?_⟩
  · rw [State.handOn_fromMember (s := s.frameTaken) hw.other (.inr hl) hm, htaken, if_neg (by simp [hl])]
  · intro seen stop hold reference agreement parts
    have hseen : heard.takeEvidence f = seen := by
      rw [State.takeEvidence, show heard.life = s.life from hlife, show heard.own = s.own from congrArg ConfigStore.number hstore]
    refine hw.exec_next order ?_
    rw [State.handOn_fromMember (s := s.frameTaken) hw.other (.inl hl) hm, htaken, if_pos hl, hseen, State.takeParts_eq]

/-! ## A frame from outside the set -/

theorem State.inSlotOf_eq (s : State) (k : Station) : s.inSlotOf k = decide (s.slots.timing.map (·.currentSlot) = some k) := by
  unfold State.inSlotOf
  cases s.slots.timing with
  | none => rfl
  | some t =>
    refine Bool.eq_iff_iff.2 ?_
    simp only [Option.any_some, Option.map_some, beq_iff_eq, decide_eq_true_eq, Option.some.injEq]

/-- Settles O40, by the digest and by what the entry was. -/
theorem framesFromOutsideTheSet : Obligations.FramesFromOutsideTheSet := by
  intro s order r e f hw hl hm k entry heardEntry inItsSlot outside
  have hslot : s.frameTaken.inSlotOf k = inItsSlot := s.frameTaken.inSlotOf_eq k
  have hheard : s.frameTaken.hear f (s.frameTaken.inSlotOf f.station) = s.frameTaken.heardAs k heardEntry inItsSlot := by
    rw [State.hear_eq, hslot]; rfl
  have houtside (state : EntryState) :
      (s.frameTaken.hear f (s.frameTaken.inSlotOf f.station)).setOutside f.station state = outside state := by
    rw [hheard, State.setOutside, State.heardAs_entry, State.heardAs_setEntry]
  have hexec {t : State} (ht : s.frameTaken.takeFromOutside f e r.bytes.length = t) : exec (.receivedWhole order) s = .next t :=
    hw.exec_next order ((State.handOn_fromOutside (s := s.frameTaken) hw.other hl hm).trans ht)
  refine ⟨fun hd he => hexec ?_, fun hd he => hexec ?_, fun hd hj he => hexec ?_, fun hd hj he => hexec ?_⟩
  · rw [State.takeFromOutside_mismatchAgain (s := s.frameTaken) hd he, hheard]
  · rw [State.takeFromOutside_mismatch (s := s.frameTaken) hd he, houtside, State.post_eq,
      State.noticesAfter_congr (s := s) (t := outside .mismatch) rfl rfl rfl]
  · rw [State.takeFromOutside_foreignAgain (s := s.frameTaken) hd hj he, hheard]
  · rw [State.takeFromOutside_foreign (s := s.frameTaken) hd hj he, houtside]

end Sys2Proof.Machine
end

section
/-! PROOFS. The resets (R88, R89, R149, R159): the values that each brings, and what a station held in reset still takes. -/

namespace Sys2Proof.Machine
open Sys2Proof

/-! ## A reset begins -/

/-- The state that a reset brings, whatever the port keeps beside a clear report-miss count, and whatever waits. -/
theorem resetState_of {cause : RestartCause} {t : State} {p : LocalPort} {queue : List Instr}
    (ht : t = { State.reset with life := LifeCycle.reset cause, port := p, pending := queue }) (hp : p.missCount = 0) :
    ResetState cause t := by
  subst ht
  exact {
    reference := ⟨rfl, rfl, rfl⟩
    agreement := ⟨rfl, rfl, rfl⟩
    stop := ⟨rfl, fun n => Vector.getElem_replicate n.isLt⟩
    hold := ⟨rfl, rfl, rfl, rfl⟩
    view := fun k => Vector.getElem_replicate k.isLt
    pins := ⟨rfl, rfl, rfl, rfl⟩
    roster := fun k => Vector.getElem_replicate k.isLt
    life := ⟨rfl, rfl, rfl, rfl⟩
    counts := ⟨rfl, rfl, rfl⟩
    sets := ⟨rfl, rfl, rfl, rfl, rfl, rfl, rfl⟩
    frames := ⟨rfl, rfl, rfl, rfl⟩
    slots := ⟨rfl, rfl⟩
    follower := rfl
    count := hp
    notices := ⟨rfl, rfl⟩
    store := rfl }

theorem State.enterReset_resetState (s : State) (cause : RestartCause) : ResetState cause (s.enterReset cause) := resetState_of rfl rfl

theorem State.takeRestart_resetState (s : State) : ResetState .request s.takeRestart := resetState_of rfl rfl

/-- With no transaction in progress or lost, a reset brings the whole port to its reset values (R149). -/
theorem LocalPort.resetBy_deselected {p : LocalPort} (ht : p.transaction = none) (hl : p.lost = false) : p.resetBy = LocalPort.reset := by
  rw [LocalPort.resetBy, ht, hl]; rfl

/-- The end of a RESTART's processing resets the port (R159). -/
theorem State.endRestart_pending {s : State} (h : s.port.buffer.isPending = true) : s.endRestart = { s with port := s.port.resetBy } :=
  if_pos h

theorem exec_responseReady_held {s : State} (h : s.inReset = true) : exec .responseReady s = .next s.endRestart := by
  rw [exec_responseReady, if_pos h]

/-- Settles O3, from the state that every reset brings. -/
theorem resetsBringResetValues : Obligations.ResetsBringResetValues := by
  refine ⟨fun s => ⟨?_, ?_⟩, fun s h => ?_⟩
  · exact ⟨_, exec_powerOn s, s.enterReset_resetState .power, rfl, rfl, rfl, rfl, rfl⟩
  · exact ⟨_, exec_resetN s, s.enterReset_resetState (pinCause s), rfl, rfl, rfl, rfl, rfl⟩
  · rw [exec_restart, State.transact_taken _ h]
    refine ⟨_, rfl, s.deselected.takeRestart_resetState, rfl, rfl, rfl, rfl, rfl, ?_⟩
    rw [exec_responseReady_held rfl, State.endRestart_pending rfl, LocalPort.resetBy_deselected rfl rfl]

/-! ## A station held in reset -/

/-- In reset, everything but a reset, its completion and the end of a RESTART's processing has no effect, or ends or begins a transaction
(R88, R149). -/
theorem exec_held {c : Instr} {s : State} (h : s.inReset = true) (hpower : c ≠ .powerOn) (hpin : c ≠ .resetN)
    (hcomplete : ∀ straps, c ≠ .resetComplete straps) (hready : c ≠ .responseReady) :
    exec c s = .next s ∨ exec c s = .next s.deselected ∨ exec c s = .next s.startTransaction := by
  have untaken := State.takesTransaction_held h
  cases c with
  | powerOn => exact absurd rfl hpower
  | resetN => exact absurd rfl hpin
  | resetComplete straps => exact absurd rfl (hcomplete straps)
  | responseReady => exact absurd rfl hready
  | transactionStart => exact .inr (.inr rfl)
  | shortTransaction _ | transactionDiscarded => exact .inr (.inl rfl)
  | nop | restart => exact .inr (.inl (congrArg _ (State.transact_untaken _ untaken)))
  | badFormat _ | unknownRequest _ | configure _ | join | leave | offerStart _ | offerRamp _ | withdrawOffer | raiseStop | clearStop
  | setHold | releaseHold | report _ _ | readSetpoint | readStatus | readRoster _ | readProposal _ | readNotice | readConfig =>
    exact .inr (.inl (congrArg _ (State.takeRequest_untaken _ _ untaken)))
  | stopInputRecognised _ _ => exact .inl ((exec_stopInputRecognised ..).trans (outOfReset_held h))
  | receivedWhole _ => exact .inl ((exec_receivedWhole ..).trans (outOfReset_held h))
  | frameAbandoned _ => exact .inl ((exec_frameAbandoned ..).trans (outOfReset_held h))
  | slotClose _ => exact .inl ((exec_slotClose ..).trans (outOfReset_held h))
  | cycleBoundary _ => exact .inl ((exec_cycleBoundary ..).trans (outOfReset_held h))
  | transmitOffset | collision | busFault | transmitEnd | gap | missedLimit _ | leavingComplete | withdrawnEntryRemoved | lagHold
  | localSilent | expired | gracePeriod | excluded | quietCountExpiry | ownSlotStart | listenWindowExpiry | characterReceived _ _ =>
    exact .inl (outOfReset_held h)

/-- The fall of CS_N begins a transaction, or loses it, and changes nothing else (R149, R151). -/
theorem State.startTransaction_eq (s : State) : s.startTransaction = { s with port := { s.port with
    transaction := s.startTransaction.port.transaction, lost := s.startTransaction.port.lost } } := by
  unfold State.startTransaction; split <;> rfl

/-! ## A reset completes -/

/-- RESTARTED, posted to the empty queue: the one notice, and ATTN_N for it while all classes are enabled (R160, R166). -/
theorem State.restarted_notices {s : State} (hn : s.notices = NoticeUnit.reset) (ha : s.store.accepted = none) (station : Nat)
    (detail : Byte) (value : BitVec 16) : s.noticesAfter [(.restarted, station, detail, value)] =
      { queue := [⟨.restarted, s.slots.cycle, station, detail, value⟩], lost := false, attention := true } := by
  simp [State.noticesAfter, State.post, State.examineAttention, State.attentionMask, hn, ha, NoticeUnit.reset, queuePost,
    Config.noticeCapacity, attentionOf, maskEnables, NoticeKind.noticeClass, NoticeClass.maskBit]

/-- The whole of a completion, where no record is accepted and the cycle count is 0 (R88, R160, R167). -/
theorem State.completeReset_eq {s : State} (straps : BitVec 4) (ha : s.store.accepted = none) (hc : s.slots.cycle = 0) :
    s.completeReset straps = { s with
      inReset := false
      store := { number := straps.toFin, accepted := none }
      port := s.port.resetBy
      notices := { queue := [⟨.restarted, 0, straps.toNat + 1, s.life.restartCause.code, 0⟩], lost := false, attention := true } } := by
  let t : State := { s with
    inReset := false, store := { s.store with number := straps.toFin }, port := s.port.resetBy, notices := NoticeUnit.reset }
  have ht : s.completeReset straps = { t with
      notices := t.noticesAfter [(.restarted, straps.toNat + 1, s.life.restartCause.code, 0)] } := rfl
  rw [ht, State.restarted_notices (s := t) rfl ha, show t.slots.cycle = 0 from hc, ← ha]

/-- A station in reset has accepted no record, and its cycle count is 0. -/
theorem accepted_and_cycle_of_held {s : State} (h : s.inReset = true) (hstore : StoreOk s) (htiming : TimingOk s) :
    s.store.accepted = none ∧ s.slots.cycle = 0 := by
  have hstate := hstore.reset h
  have haccepted := hstore.accepted
  obtain ⟨hpresent, hcycle⟩ := htiming
  rw [hstate] at haccepted hpresent
  exact ⟨Option.not_isSome_iff_eq_none.1 (by simp [haccepted]),
    hcycle (Option.not_isSome_iff_eq_none.1 (by simp [hpresent, StationState.transmits]))⟩

/-- Settles O4, from the completion whole and what a station in reset takes. -/
theorem aResetHoldsUntilItCompletes : Obligations.AResetHoldsUntilItCompletes := by
  refine ⟨fun straps s => ⟨fun h hstore htiming => ?complete, fun h => ?ended, fun h => ?free⟩,
    fun c s h hpower hpin hcomplete hready => ?held⟩
  case complete =>
    obtain ⟨haccepted, hcycle⟩ := accepted_and_cycle_of_held h hstore htiming
    rw [exec_resetComplete, if_pos h, State.completeReset_eq straps haccepted hcycle]
    exact ⟨_, rfl, rfl, rfl, rfl, rfl, rfl, rfl, rfl⟩
  case ended => exact exec_responseReady_held h
  case free => rw [exec_resetComplete, h]; rfl
  case held =>
    rcases exec_held h hpower hpin hcomplete hready with hexec | hexec | hexec
    · exact ⟨_, hexec, rfl⟩
    · exact ⟨_, hexec, rfl⟩
    · exact ⟨_, hexec, s.startTransaction_eq⟩

end Sys2Proof.Machine
end

section
/-! PROOFS. The changes of station state that a count at its limit or the own number heard makes (R96, R98, R101, R102, R105), from what each
kind of change does (R106). -/

namespace Sys2Proof.Machine
open Sys2Proof

/-! ## Changes of kind (a) and (b), whole -/

/-- What a change of kind (a) makes of the station state, the report-miss count and the notices. -/
theorem State.goSilent_change (s : State) (next : StationState) (isolation : Option IsolationCause) (notice : Option OwnNotice) :
    (s.goSilent next isolation notice).life.state = next ∧ (s.goSilent next isolation notice).life.isolation = isolation ∧
      (s.goSilent next isolation notice).life.listenTimer = none ∧ (s.goSilent next isolation notice).port = s.port.countCleared ∧
      (s.goSilent next isolation notice).notices = (s.atCycle 0).noticesAfter
        (notice.toList ++ stationStateNotice next s.life.state :: discardNotices s.agreement.own) := by
  rw [State.goSilent_eq]
  exact ⟨rfl, rfl, rfl, rfl, rfl⟩

/-- A silent exit stays one, whatever the listen window timer and the mismatch-reported set become. -/
theorem SilentExit.listening {s t : State} (h : SilentExit s t) (window : Option Nat) (reported : StationSet) :
    SilentExit s { t with life := { t.life with listenTimer := window, mismatchReported := reported } } :=
  ⟨h.reference, h.slots, h.bus, h.assembled, h.roster, h.agreement, h.claims, h.follower, h.counts, h.joining, h.kept⟩

/-- The change from LISTENING to IDLE: the whole of what it leaves (R101, R104). -/
theorem State.stopListening_eq (s : State) (notice : Option OwnNotice) : s.stopListening notice = { s with
    life := { s.life with state := .idle, listenTimer := none }
    follower := { s.follower with held := none }
    notices := s.noticesAfter (notice.toList ++ [stationStateNotice .idle s.life.state]) } := by
  cases notice <;> rfl

/-! ## The counts at their limits -/

section
variable {s : State}

/-- Three collisions (R102). -/
theorem State.isolateOnCollisions_limit (h : s.life.state.transmits = true ∧ s.bus.collisions = 3) : s.isolateOnCollisions =
    s.goSilent .isolated (some .collisions) (some (.busFault, 0, IsolationCause.collisions.code, 3)) := if_pos h

theorem State.isolateOnCollisions_below (h : s.life.state.transmits = false ∨ s.bus.collisions ≠ 3) : s.isolateOnCollisions = s :=
  if_neg fun ⟨ht, hc⟩ => h.elim (by simp [ht]) (· hc)

/-- Two LEAVING frames (R105). -/
theorem State.finishLeaving_limit (h : s.life.state = .leaving ∧ s.life.leavingFrames = 2) :
    s.finishLeaving = s.goSilent .idle s.life.isolation none := if_pos h

theorem State.finishLeaving_below (h : s.life.state ≠ .leaving ∨ s.life.leavingFrames ≠ 2) : s.finishLeaving = s :=
  if_neg fun ⟨hl, hf⟩ => h.elim (· hl) (· hf)

/-- M quiet cycles (R96). -/
theorem State.expireQuiet_limit (h : s.life.state = .joining ∧ s.life.quiet = s.cfg.missedLimit.toNat) :
    s.expireQuiet = { s.goSilentAtBoundary .listening with life := { (s.goSilentAtBoundary .listening).life with
      listenTimer := some (32 * s.cfg.slotLength.toNat), mismatchReported := 0 } } := by
  have hwindow : (s.goSilentAtBoundary .listening).listenWindow = 32 * s.cfg.slotLength.toNat := by
    rw [State.listenWindow, State.slotLength, State.cfg, (s.goSilentAtBoundary_frame .listening).2.1]; rfl
  rw [← hwindow]
  exact if_pos h

theorem State.expireQuiet_below (h : s.life.state ≠ .joining ∨ s.life.quiet ≠ s.cfg.missedLimit.toNat) : s.expireQuiet = s :=
  if_neg fun ⟨hl, hq⟩ => h.elim (· hl) (· hq)

/-- The exclusion count at 2 (R98). -/
theorem State.exclude_limit (h : s.life.state = .member ∧ s.life.exclusion = 2) :
    s.exclude = s.rejoin (some (.excluded, 0, 0, s.life.firstSet.getD 0)) := if_pos h

theorem State.exclude_below (h : s.life.state ≠ .member ∨ s.life.exclusion ≠ 2) : s.exclude = s :=
  if_neg fun ⟨hl, he⟩ => h.elim (· hl) (· he)

end

/-- Settles O17, count by count, from the change of kind (a) or (b) that each makes at its limit. -/
theorem countsAtTheirLimitsChangeTheState : Obligations.CountsAtTheirLimitsChangeTheState := by
  refine ⟨fun s hr => ?_, fun s hr => ?_⟩
  · rw [exec_busFault, exec_leavingComplete, exec_quietCountExpiry, outOfReset_free hr, outOfReset_free hr, outOfReset_free hr]
    refine ⟨fun h => ?collisions, fun h => by rw [State.isolateOnCollisions_below h], fun h => ?leaving,
      fun h => by rw [State.finishLeaving_below h], fun h => ?quiet, fun h => by rw [State.expireQuiet_below h]⟩
    case collisions =>
      rw [State.isolateOnCollisions_limit h]
      exact ⟨_, rfl, s.goSilent_exit .., s.goSilent_change ..⟩
    case leaving =>
      obtain ⟨hstate, hisolation, htimer, hport, hnotices⟩ := s.goSilent_change .idle s.life.isolation none
      rw [State.finishLeaving_limit h]
      exact ⟨_, rfl, s.goSilent_exit .., hstate, hisolation, htimer, hport, h.1 ▸ hnotices⟩
    case quiet =>
      rw [State.expireQuiet_limit h]
      refine ⟨_, rfl, (s.goSilentAtBoundary_exit .listening).listening .., ?_⟩
      rw [State.goSilentAtBoundary_eq, h.1]
      exact ⟨rfl, rfl, rfl, rfl, rfl, rfl⟩
  · rw [exec_excluded, outOfReset_free hr]
    refine ⟨fun h => ?_, fun h => by rw [State.exclude_below h]⟩
    rw [State.exclude_limit h]
    refine ⟨_, rfl, s.rejoin_exit _, ?_⟩
    rw [State.rejoin_eq, h.1]
    exact ⟨rfl, rfl, rfl, rfl, rfl, rfl, rfl, rfl, rfl⟩

/-! ## The own number heard (R101) -/

/-- RECEIVED_WHOLE of a valid frame of the own number. -/
theorem exec_ownNumber {s : State} {r : Receipt} {e : Nat} {f : Frame} (order : PartOrder) (hr : s.inReset = false)
    (hrec : s.bus.receipt = some r) (he : r.endTime = some e) (hc : crcAgrees r.bytes = true) (hv : validFrame r.bytes = some f)
    (hown : f.station = s.own) : exec (.receivedWhole order) s = .next (s.frameTaken.takeOwnNumber f) := by
  rw [exec_receivedWhole, outOfReset_free hr, State.receiveWhole_valid order hrec he hc hv]
  exact congrArg _ (if_pos hown)

section
variable {s : State} {f : Frame}

theorem State.takeOwnNumber_listening (h : s.life.state = .listening) :
    s.takeOwnNumber f = s.stopListening (some (s.duplicateNotice f .idle)) := by
  unfold State.takeOwnNumber; rw [h]

theorem State.takeOwnNumber_toIdle (h : s.life.state = .joining ∨ s.life.state = .leaving) :
    s.takeOwnNumber f = s.goSilent .idle s.life.isolation (some (s.duplicateNotice f .idle)) := by
  unfold State.takeOwnNumber; rcases h with h | h <;> rw [h]

theorem State.takeOwnNumber_member (h : s.life.state = .member) :
    s.takeOwnNumber f = s.goSilent .isolated (some .duplicate) (some (s.duplicateNotice f .isolated)) := by
  unfold State.takeOwnNumber; rw [h]

theorem State.takeOwnNumber_silent (h : s.life.state = .unconfigured ∨ s.life.state = .idle ∨ s.life.state = .isolated) :
    s.takeOwnNumber f = s := by
  unfold State.takeOwnNumber; rcases h with h | h | h <;> rw [h]

end

/-- Settles O41, row by row of Table 5-4. -/
theorem theOwnNumberHeardIsADuplicate : Obligations.TheOwnNumberHeardIsADuplicate := by
  intro s order r e f hr hrec he hc hv hown taken duplicate
  have hnotices (c : Cycle) (posts : List OwnNotice) : (taken.atCycle c).noticesAfter posts = (s.atCycle c).noticesAfter posts :=
    State.noticesAfter_congr (s := s.atCycle c) (t := taken.atCycle c) rfl rfl rfl posts
  rw [exec_ownNumber order hr hrec he hc hv hown, show s.frameTaken = taken from rfl]
  refine ⟨fun h => ?listening, fun h => ?toIdle, fun h => ?member, fun h => by rw [State.takeOwnNumber_silent (s := taken) h]⟩
  case listening =>
    rw [State.takeOwnNumber_listening (s := taken) h, State.stopListening_eq, State.noticesAfter_congr (s := s) (t := taken) rfl rfl rfl,
      show taken.life.state = .listening from h]
    rfl
  case toIdle =>
    rw [State.takeOwnNumber_toIdle (s := taken) h, ← hnotices]
    exact ⟨_, rfl, taken.goSilent_exit .., taken.goSilent_change ..⟩
  case member =>
    rw [State.takeOwnNumber_member (s := taken) h, ← hnotices, ← show taken.life.state = .member from h]
    exact ⟨_, rfl, taken.goSilent_exit .., taken.goSilent_change ..⟩

end Sys2Proof.Machine
end

section
/-! PROOFS. The own transmission (R122 to R125): a frame as its characters, the transmit offset, the end and the collision. -/

namespace Sys2Proof.Machine
open Sys2Proof

/-! ## A frame as its characters (R122) -/

theorem frameBytes_ne_nil (f : Frame) : frameBytes f ≠ [] := by
  simp [frameBytes, contentBytes, fixedBytes]

/-- The characters carry the frame's bytes in order, the header's alone with mark 1. -/
theorem frameCharacters_data_mark (f : Frame) : (frameCharacters f).map (·.data) = frameBytes f ∧
    (frameCharacters f).map (·.mark) = true :: List.replicate ((frameBytes f).length - 1) false := by
  unfold frameCharacters
  cases h : frameBytes f with
  | nil => exact absurd h (frameBytes_ne_nil f)
  | cons header rest =>
    simp only [List.map_cons, List.map_map, List.length_cons, Nat.add_sub_cancel]
    exact ⟨congrArg _ (List.map_id rest), congrArg _ List.map_const⟩

/-! ## The three events -/

section
variable {s : State}

theorem State.beginTransmission_taken {a : Assembled} (ha : s.assembled = some a) (hl : s.life.state.transmits = true)
    (hb : s.bus.transmit = .idle) : s.beginTransmission = { s with bus := { s.bus with
      transmit := .sending (frameCharacters a.frame), bde := true, btxIdle := false, receipt := none } } := by
  unfold State.beginTransmission
  rw [ha]
  exact if_pos ⟨hl, hb⟩

theorem State.beginTransmission_untaken (h : s.assembled = none ∨ s.life.state.transmits = false ∨ s.bus.transmit ≠ .idle) :
    s.beginTransmission = s := by
  unfold State.beginTransmission
  cases ha : s.assembled with
  | none => rfl
  | some a =>
    refine if_neg fun ⟨hl, hb⟩ => ?_
    rcases h with h | h | h
    · simp [ha] at h
    · simp [hl] at h
    · exact h hb

theorem State.endTransmission_sending {characters : List BusCharacter} (h : s.bus.transmit = .sending characters) :
    s.endTransmission = { s with
      assembled := none, bus := { s.bus with transmit := .idle, bde := false, btxIdle := true, collisions := 0 } } := by
  unfold State.endTransmission; rw [h]; rfl

theorem State.collide_sending {characters : List BusCharacter} (h : s.bus.transmit = .sending characters) :
    s.collide = { s with assembled := none, bus := { s.bus with
      transmit := .idle, bde := false, btxIdle := true, collisions := min (s.bus.collisions + 1) 3 } } := by
  unfold State.collide; rw [h]; rfl

/-- With nothing being sent there is no end and no collision. -/
theorem State.transmission_idle (h : s.bus.transmit = .idle) : s.endTransmission = s ∧ s.collide = s := by
  unfold State.endTransmission State.collide; rw [h]; exact ⟨rfl, rfl⟩

end

/-- Settles O33, event by event. -/
theorem transmissionBeginsAndEnds : Obligations.TransmissionBeginsAndEnds := by
  intro s hr
  rw [exec_transmitOffset, exec_transmitEnd, exec_collision, outOfReset_free hr, outOfReset_free hr, outOfReset_free hr]
  refine ⟨fun a ha hl hb => ⟨?_, frameCharacters_data_mark a.frame⟩, fun h => ?_, fun characters h => ⟨?_, ?_⟩, fun h => ?_⟩
  · rw [State.beginTransmission_taken ha hl hb]
  · rw [State.beginTransmission_untaken h]
  · rw [State.endTransmission_sending h]
  · rw [State.collide_sending h]
  · obtain ⟨hend, hcollide⟩ := State.transmission_idle h
    rw [hend, hcollide]
    exact ⟨rfl, rfl⟩

end Sys2Proof.Machine
end

section
/-! PROOFS. LISTEN_WINDOW_EXPIRY (R95, R132): the line founded, and the founder's own-slot start that follows at once. -/

namespace Sys2Proof.Machine
open Sys2Proof

/-! ## The timing at founding (R132) -/

section
variable (own : Station) (now : Int)

theorem foundedTiming_slotStart (slotLength : Nat) : (foundedTiming own now).slotStart slotLength own = now := by
  simp [Timing.slotStart, foundedTiming]

theorem foundedTiming_cycleEnd (slotLength : Nat) :
    (foundedTiming own now).cycleEnd slotLength = now + (17 - (stationNumber own : Int)) * slotLength := by
  rw [show (17 : Int) - (stationNumber own : Int) = 16 - (own.val : Int) by unfold stationNumber; omega]
  rfl

theorem foundedTiming_closes (j : Station) : contains (foundedTiming own now).closesRaised j = decide (j.val < own.val) := by
  simp [foundedTiming, slotsBelow]

end

/-! ## The line founded (R95) -/

/-- The founding, but for the own-slot start: the whole of what it leaves. -/
theorem State.foundLine_eq (s : State) : s.foundLine = { s with
    life := { s.life with
      state := .member, listenTimer := none, exclusion := 0, islandReported := 0, joiningSince := none, admitting := none,
      memberHeard := false, ownSeen := false, firstSet := none }
    slots := { s.slots with timing := some (foundedTiming s.own s.slots.now), cycle := 0, atBoundary := false }
    reference := { s.reference.exited with lastPublished := .stopped }
    roster := Roster.reset
    follower := { s.follower with held := none }
    notices := (s.atCycle 0).noticesAfter [stationStateNotice .member s.life.state] } := rfl

/-- A MEMBER whose roster holds its reset values is the only one in its set (R70). -/
theorem State.isMember_alone {s : State} (hl : s.life.state = .member) (hr : s.roster = Roster.reset) (k : Station) :
    s.isMember k = decide (k = s.own) := by
  by_cases hk : k = s.own <;> simp [State.isMember, State.rosterEntry, hk, hl, hr, ownEntryState, Roster.reset, RosterEntry.reset]

theorem State.memberSet_alone {s : State} (hl : s.life.state = .member) (hr : s.roster = Roster.reset) : s.memberSet = singleton s.own :=
  stationSet_ext fun k => by rw [State.memberSet, contains_setOf, State.isMember_alone hl hr, contains_singleton]

/-! ## The own-slot start with an empty table (R47, R113) -/

section
variable {s : State}

/-- With an empty table the agreement unit changes nothing and hands no part over (R47). -/
theorem State.agreementSlot_empty (ho : s.agreement.own = none) (hothers : s.agreement.others = []) :
    s.agreementSlot = (s, none, none, []) := by
  have hverdicts : s.giveVerdicts = s := by rw [State.giveVerdicts, hothers]; rfl
  have hdeal : s.dealOwnEntry = s := by rw [State.dealOwnEntry, ho]
  have hentry : s.setOwnEntry none = s := by rw [← ho]; rfl
  have hresponses : s.agreement.responses = [] := by simp [Agreement.responses, Agreement.other?, hothers]
  simp [State.agreementSlot, hverdicts, hdeal, hresponses, ho, hentry]

theorem State.slotOwners_empty (hl : s.life.state = .member) (ho : s.agreement.own = none) (hothers : s.agreement.others = []) :
    s.slotOwners = { s with claims := s.slotOwners.claims } := by
  have howners : s.slotOwners = s.claimsSlot := by
    rw [State.slotOwners, State.agreementSlot_empty ho hothers, State.lifeSlot_member (s := s.claimsSlot) hl]
  rw [howners]; rfl

/-- The claim unit's part at the own-slot start: the stop claim and the announced hold alone. -/
theorem State.slotOwners_claims_kept (s : State) : s.slotOwners.claims = { s.claims with
    stop := s.slotOwners.claims.stop, announced := s.slotOwners.claims.announced
    announcedEffective := s.slotOwners.claims.announcedEffective } := by
  rw [State.slotOwners_claims, announceHold_eq]

/-- The frame of a MEMBER alone in its set, with an empty table. -/
theorem State.slotFrame_alone (hl : s.life.state = .member) (ho : s.agreement.own = none) (hothers : s.agreement.others = [])
    (hr : s.roster = Roster.reset) : s.slotFrame =
      { station := s.own, cycle := s.slots.cycle, state := .member, digest := s.digest
        reference := referencePartOf s.reference.record, members := singleton s.own, stopCause := s.claims.stop.map (·.cause)
        stopEffective := (s.slotOwners.claims.stop.bind (·.effective)).getD 0, hold := s.slotOwners.claims.announced
        holdEffective := s.slotOwners.claims.announcedEffective.getD s.slots.cycle, restartCause := none, joiningSince := 0
        offer := none, decision := none, responses := [] } := by
  obtain ⟨hcause, -⟩ := s.slotFrame_claims
  obtain ⟨-, -, -, -, hmembers⟩ := s.slotFrame_fixed
  rw [hl, if_neg (by decide), State.memberSet_alone hl hr] at hmembers
  rw [← hcause, ← hmembers, State.slotFrame, State.agreementSlot_empty ho hothers, State.slotOwners_empty hl ho hothers]
  simp [State.ownFrame, State.own, State.digest, State.shownRecord, hl, StationState.sender]

end

/-! ## LISTEN_WINDOW_EXPIRY -/

theorem State.expireWindow_listening {s : State} (h : s.life.state = .listening) : s.expireWindow = s.foundLine.slotStartWork := if_pos h

theorem State.expireWindow_other {s : State} (h : s.life.state ≠ .listening) : s.expireWindow = s := if_neg h

/-- Settles O18, from the line founded and the founder's own-slot start. -/
theorem listenWindowExpiryFoundsALine : Obligations.ListenWindowExpiryFoundsALine := by
  intro s hr
  rw [exec_listenWindowExpiry, outOfReset_free hr]
  refine ⟨fun hl ho hothers => ?_, fun h => by rw [State.expireWindow_other h]⟩
  let u := s.foundLine
  have howners : u.slotOwners = { u with claims := u.slotOwners.claims } := State.slotOwners_empty (s := u) rfl ho hothers
  obtain ⟨hstop, -⟩ := u.slotOwners_stop
  have hnotices : u.notices = (s.atCycle 0).noticesAfter [stationStateNotice .member .listening] := by rw [← hl]; rfl
  rw [State.expireWindow_listening hl, State.slotStartWork_eq, howners]
  refine ⟨_, foundedTiming s.own s.slots.now, u.slotFrame, rfl, rfl, rfl, rfl, rfl, foundedTiming_slotStart .., foundedTiming_cycleEnd ..,
    rfl, foundedTiming_closes _ _, State.isMember_alone rfl rfl, rfl, rfl, rfl, rfl, rfl, rfl, hstop,
    ⟨fun h => State.slotOwners_announced (s := u) h, fun h => State.slotOwners_unannounced (s := u) h⟩, ?hold,
    u.slotOwners_claims_kept, rfl, State.slotFrame_alone (s := u) rfl ho hothers rfl, hnotices⟩
  case hold =>
    intro hmanual hannounced heffective
    have hcombined : u.combinedHold = true := by rw [State.combinedHold, show u.claims.manualHold = true from hmanual]; rfl
    obtain ⟨hvalue, hcycle⟩ := State.slotOwners_announced (s := u)
      ⟨by rw [hcombined, show u.claims.announced = false from hannounced]; decide, heffective⟩
    obtain ⟨-, -, hframe, hframeEffective⟩ := u.slotFrame_claims
    exact ⟨hvalue.trans hcombined, by rw [hframe, hvalue, hcombined], by rw [hframeEffective, hcycle]; rfl⟩

end Sys2Proof.Machine
end

section
/-! PROOFS. The bytes of a status frame (12.2): every frame with at most 15 responses is read back from its bytes, their length is the one that the
counts byte gives, and their CRC agrees (R109, R111, R112, R115, R127). -/

namespace Sys2Proof.Machine
open Sys2Proof

/-! ## Codes read back (Tables 12-2 and 12-10 to 12-12) -/

@[simp] theorem SenderState.ofCode_code (x : SenderState) : SenderState.ofCode x.code = some x := by cases x <;> rfl

@[simp] theorem RampState.ofCode_code (x : RampState) : RampState.ofCode x.code = some x := by cases x <;> rfl

@[simp] theorem RestartCause.ofCode_code (x : Option RestartCause) :
    RestartCause.ofCode (codeOr0 RestartCause.code x) = some x := by
  cases x with
  | none => rfl
  | some x => cases x <;> rfl

@[simp] theorem StopCause.ofCode_code (x : Option StopCause) : StopCause.ofCode (codeOr0 StopCause.code x) = some x := by
  cases x with
  | none => rfl
  | some x =>
    cases x with
    | stopInput n => revert n; decide
    | _ => rfl

@[simp] theorem holdOfCode_flagByte (b : Bool) : holdOfCode (flagByte b) = some b := by cases b <;> rfl

@[simp] theorem OfferKind.ofCode_code (x : OfferKind) : OfferKind.ofCode x.code = some x := by cases x <;> rfl

@[simp] theorem Verdict.ofCode_code (x : Verdict) : Verdict.ofCode x.code = some x := by
  cases x with
  | ack => rfl
  | refuse why => cases why <;> rfl

@[simp] theorem DecisionOutcome.ofCode_code (x : DecisionOutcome) : DecisionOutcome.ofCode x.code = some x := by
  cases x with
  | commit => rfl
  | withdraw why => cases why <;> rfl

@[simp] theorem stationOfNumber_numberByte (k : Station) : stationOfNumber (numberByte k) = some k := by revert k; decide

/-- The counts byte holds the presence of the optional parts, two positions at 0, and the number of responses (R112). -/
theorem countsByte_fields (offer decision : Bool) {n : Nat} (h : n ≤ 15) :
    (countsByte offer decision n).getLsbD 7 = offer ∧ (countsByte offer decision n).getLsbD 6 = decision ∧
      (countsByte offer decision n).getLsbD 5 = false ∧ (countsByte offer decision n).getLsbD 4 = false ∧
      (countsByte offer decision n).toNat % 16 = n := by
  have fields : ∀ (o d : Bool) (k : Fin 16), (countsByte o d k.val).getLsbD 7 = o ∧ (countsByte o d k.val).getLsbD 6 = d ∧
      (countsByte o d k.val).getLsbD 5 = false ∧ (countsByte o d k.val).getLsbD 4 = false ∧
      (countsByte o d k.val).toNat % 16 = k.val := by decide
  exact fields offer decision ⟨n, by omega⟩

/-! ## Bytes at their offsets -/

/-- Past a run of bytes, an offset counts from its end. -/
theorem byteAt_append (a b : List Byte) (i : Nat) : byteAt (a ++ b) (a.length + i) = byteAt b i := by
  simp [byteAt, List.getD_eq_getElem?_getD, List.getElem?_append_right]

theorem byteAt_append_start (a b : List Byte) : byteAt (a ++ b) a.length = byteAt b 0 := byteAt_append a b 0

theorem halfAt_append (a b : List Byte) (i : Nat) : halfAt (a ++ b) (a.length + i) = halfAt b i := by
  rw [halfAt, Nat.add_assoc, byteAt_append, byteAt_append, halfAt]

/-- The bytes of a half-word spell it. -/
theorem halfAt_halfBytes (w : BitVec 16) : halfAt (halfBytes w) 0 = w := by
  simp [halfAt, halfBytes, byteAt, halfBytes_append]

theorem halfBytes_length (w : BitVec 16) : (halfBytes w).length = 2 := rfl

/-! ## The optional parts read back (Table 12-2) -/

theorem responseBytes_length (r : ResponsePart) : (responseBytes r).length = 3 := rfl

theorem offerAt_append (a rest : List Byte) (o : OfferPart) : offerAt (a ++ (offerBytes o ++ rest)) a.length = some o := by
  simp only [offerAt, byteAt_append, halfAt_append, byteAt_append_start]
  simp [offerBytes, halfBytes, byteAt, halfAt, halfBytes_append]

theorem decisionAt_append (a rest : List Byte) (d : DecisionPart) : decisionAt (a ++ (decisionBytes d ++ rest)) a.length = some d := by
  simp only [decisionAt, byteAt_append, halfAt_append, byteAt_append_start]
  simp [decisionBytes, halfBytes, byteAt, halfAt, halfBytes_append]

theorem responsesAt_append (a rest : List Byte) (l : List ResponsePart) :
    responsesAt (a ++ (l.flatMap responseBytes ++ rest)) a.length l.length = some l := by
  induction l generalizing a with
  | nil => rfl
  | cons r l ih =>
    have hrest := ih (a ++ responseBytes r)
    rw [List.length_append, responseBytes_length, List.append_assoc, ← List.append_assoc (responseBytes r)] at hrest
    simp only [List.flatMap_cons, List.length_cons, responsesAt, hrest, byteAt_append, byteAt_append_start]
    simp [responseBytes, byteAt]

/-! ## The whole frame -/

theorem fixedBytes_length (f : Frame) : (fixedBytes f).length = Config.fixedPart := rfl

/-- The optional parts and the CRC follow the fixed part. -/
theorem frameBytes_eq (f : Frame) : frameBytes f = fixedBytes f ++ ((f.offer.map offerBytes).getD [] ++
    ((f.decision.map decisionBytes).getD [] ++ (f.responses.flatMap responseBytes ++ halfBytes (crc (contentBytes f))))) := by
  simp only [frameBytes, contentBytes, optionalBytes, List.append_assoc]

/-- The length of an offer that may be absent (R111). -/
theorem offerPart_length (o : Option OfferPart) : ((o.map offerBytes).getD []).length = if o.isSome = true then 8 else 0 := by
  cases o <;> rfl

/-- The length of a decision that may be absent (R111). -/
theorem decisionPart_length (d : Option DecisionPart) :
    ((d.map decisionBytes).getD []).length = if d.isSome = true then 4 else 0 := by
  cases d <;> rfl

/-- The offset after the offer. -/
theorem afterOffer_length (f : Frame) : (fixedBytes f ++ (f.offer.map offerBytes).getD []).length =
    Config.fixedPart + (if f.offer.isSome = true then 8 else 0) := by
  rw [List.length_append, fixedBytes_length, offerPart_length]

/-- The offset after the decision. -/
theorem afterDecision_length (f : Frame) :
    ((fixedBytes f ++ (f.offer.map offerBytes).getD []) ++ (f.decision.map decisionBytes).getD []).length =
      Config.fixedPart + (if f.offer.isSome = true then 8 else 0) + (if f.decision.isSome = true then 4 else 0) := by
  rw [List.length_append, afterOffer_length, decisionPart_length]

/-- The offer of a frame is read back from its bytes, where there is one. -/
theorem offerAt_frameBytes (f : Frame) :
    (if f.offer.isSome = true then (offerAt (frameBytes f) Config.fixedPart).map some else some none) = some f.offer := by
  cases h : f.offer with
  | none => rfl
  | some o =>
    rw [frameBytes_eq, h, ← fixedBytes_length f]
    simp only [Option.map_some, Option.getD_some, Option.isSome_some, if_true, offerAt_append]

/-- The decision of a frame is read back from its bytes, where there is one, at the offset after the offer. -/
theorem decisionAt_frameBytes (f : Frame) :
    (if f.decision.isSome = true then
      (decisionAt (frameBytes f) (Config.fixedPart + (if f.offer.isSome = true then 8 else 0))).map some else some none) =
      some f.decision := by
  cases h : f.decision with
  | none => rfl
  | some d =>
    rw [frameBytes_eq, h, ← afterOffer_length, ← List.append_assoc]
    simp only [Option.map_some, Option.getD_some, Option.isSome_some, if_true, decisionAt_append]

/-- The responses of a frame are read back from its bytes, at the offset after the other parts. -/
theorem responsesAt_frameBytes (f : Frame) :
    responsesAt (frameBytes f)
      (Config.fixedPart + (if f.offer.isSome = true then 8 else 0) + (if f.decision.isSome = true then 4 else 0))
      f.responses.length = some f.responses := by
  rw [frameBytes_eq, ← afterDecision_length, ← List.append_assoc, ← List.append_assoc]
  exact responsesAt_append ..

/-- The fields of one byte in the fixed part, at their offsets (Table 12-1). -/
theorem byteAt_fixedBytes (f : Frame) (rest : List Byte) :
    byteAt (fixedBytes f ++ rest) 0 = numberByte f.station ∧ byteAt (fixedBytes f ++ rest) 3 = f.state.code ∧
      byteAt (fixedBytes f ++ rest) 6 = f.reference.ramp.code ∧ byteAt (fixedBytes f ++ rest) 13 = f.reference.epoch ∧
      byteAt (fixedBytes f ++ rest) 18 = codeOr0 StopCause.code f.stopCause ∧ byteAt (fixedBytes f ++ rest) 21 = flagByte f.hold ∧
      byteAt (fixedBytes f ++ rest) 24 = codeOr0 RestartCause.code f.restartCause ∧
      byteAt (fixedBytes f ++ rest) 27 = countsByte f.offer.isSome f.decision.isSome f.responses.length := by
  simp [fixedBytes, referenceBytes, halfBytes, byteAt]

/-- The fields of two bytes in the fixed part, at their offsets (Table 12-1). -/
theorem halfAt_fixedBytes (f : Frame) (rest : List Byte) :
    halfAt (fixedBytes f ++ rest) 1 = f.cycle ∧ halfAt (fixedBytes f ++ rest) 4 = f.digest ∧
      halfAt (fixedBytes f ++ rest) 7 = f.reference.t ∧ halfAt (fixedBytes f ++ rest) 9 = f.reference.s ∧
      halfAt (fixedBytes f ++ rest) 11 = f.reference.pLow ∧ halfAt (fixedBytes f ++ rest) 14 = f.reference.stoppedSince ∧
      halfAt (fixedBytes f ++ rest) 16 = f.members ∧ halfAt (fixedBytes f ++ rest) 19 = f.stopEffective ∧
      halfAt (fixedBytes f ++ rest) 22 = f.holdEffective ∧ halfAt (fixedBytes f ++ rest) 25 = f.joiningSince := by
  simp [fixedBytes, referenceBytes, halfBytes, halfAt, byteAt, halfBytes_append]

/-- A choice before one continuation, as `do` leaves it in both branches. -/
theorem ite_bind_eq {α β : Type} {p : Prop} [Decidable p] (x y : Option α) (g : α → Option β) :
    (if p then x >>= g else y >>= g) = (if p then x else y) >>= g := by
  split <;> rfl

/-- Every frame is read back from its bytes (R109, R111, R112). -/
theorem readFrame_frameBytes {f : Frame} (h : f.responses.length ≤ 15) : readFrame (frameBytes f) = some f := by
  have hoffer := offerAt_frameBytes f
  have hdecision := decisionAt_frameBytes f
  have hresponses := responsesAt_frameBytes f
  obtain ⟨rest, hrest⟩ : ∃ rest, frameBytes f = fixedBytes f ++ rest := ⟨_, frameBytes_eq f⟩
  obtain ⟨hseven, hsix, hfive, hfour, hcount⟩ := countsByte_fields f.offer.isSome f.decision.isSome h
  rw [hrest] at hoffer hdecision hresponses ⊢
  unfold readFrame
  simp only [byteAt_fixedBytes, halfAt_fixedBytes, hseven, hsix, hfive, hfour, hcount, ite_bind_eq, hoffer, hdecision, hresponses]
  simp [guard]

/-- The counts byte of a frame gives its length (R112, R128). -/
theorem lengthOfCounts_frameBytes {f : Frame} (h : f.responses.length ≤ 15) :
    lengthOfCounts (byteAt (frameBytes f) 27) = (frameBytes f).length := by
  obtain ⟨hoffer, hdecision, -, -, hcount⟩ := countsByte_fields f.offer.isSome f.decision.isSome h
  have hresponses : (f.responses.flatMap responseBytes).length = 3 * f.responses.length := by
    simp only [List.length_flatMap, responseBytes_length, List.map_const', List.sum_replicate_nat, Nat.mul_comm]
  rw [frameBytes_eq]
  obtain ⟨-, -, -, -, -, -, -, hcounts⟩ := byteAt_fixedBytes f _
  rw [hcounts, lengthOfCounts, hoffer, hdecision, hcount, ← afterDecision_length, ← hresponses]
  simp only [List.length_append, halfBytes_length, Nat.add_assoc]

/-- The last two bytes of a frame are the CRC of the bytes before them (R127). -/
theorem crcAgrees_frameBytes (f : Frame) : crcAgrees (frameBytes f) = true := by
  generalize hc : contentBytes f = content
  have hlength : (frameBytes f).length - 2 = content.length := by
    rw [frameBytes, hc, List.length_append, halfBytes_length, Nat.add_sub_cancel]
  rw [crcAgrees, hlength, beq_iff_eq, frameBytes, hc, List.take_left]
  rw [← Nat.add_zero content.length, halfAt_append, halfAt_halfBytes]

/-- Settles O60, part by part: the fields at their offsets, the length by the counts byte, and the CRC. -/
theorem frameEncodingReadsBack : Obligations.FrameEncodingReadsBack := by
  intro f hvalid hcount
  refine ⟨?_, ?_, crcAgrees_frameBytes f⟩
  · rw [validFrame, readFrame_frameBytes hcount, Option.filter_some, if_pos hvalid]
  · have hlong : ¬ (frameBytes f).length < Config.fixedPart := by
      rw [frameBytes_eq, List.length_append, fixedBytes_length]; omega
    rw [expectedLength, if_neg hlong, lengthOfCounts_frameBytes hcount]

end Sys2Proof.Machine
end

section
/-! PROOFS. The law of the proposal table (R22, R23, R25) as a property of the table alone, and the changes of the table that keep it. -/

namespace Sys2Proof.Machine
open Sys2Proof

/-! ## The law -/

/-- How many open entries of a table carry this station's acknowledgement (R25). -/
def Agreement.acknowledged (g : Agreement) : Nat :=
  (if g.own.any (·.isOpen) then 1 else 0) + g.others.countP fun e => e.verdict == some .ack

theorem openAcknowledged_eq (s : State) : openAcknowledged s = s.agreement.acknowledged := rfl

/-- What a station with this number keeps of its table in this station state: the parts of `AgreementOk` that the table alone decides, and
the own number among the voters of an own offer. -/
structure Agreement.Lawful (own : Station) (state : StationState) (g : Agreement) : Prop where
  keyed : (g.others.map (·.origin)).Nodup
  apart : ∀ e ∈ g.others, e.origin ≠ own
  silent : state.transmits = false → g.own = none ∧ g.others = []
  joining : state = .joining → g.own = none
  single : g.acknowledged ≤ 1
  voters : ∀ e b, g.own = some e → e.phase = .offered b → contains b.voters own = true

section
variable {own : Station} {state : StationState} {g g' : Agreement}

/-- An empty table is lawful in every station state. -/
theorem Agreement.Lawful.of_empty (ho : g.own = none) (hothers : g.others = []) : g.Lawful own state where
  keyed := by simp [hothers]
  apart := by simp [hothers]
  silent _ := ⟨ho, hothers⟩
  joining _ := ho
  single := by simp [Agreement.acknowledged, ho, hothers]
  voters e b he := by simp [ho] at he

/-- A table goes on into a transmitting state other than JOINING. -/
theorem Agreement.Lawful.enter {state' : StationState} (h : g.Lawful own state) (ht : state'.transmits = true) (hj : state' ≠ .joining) :
    g.Lawful own state' where
  keyed := h.keyed
  apart := h.apart
  silent hq := absurd ht (by simp [hq])
  joining he := absurd he hj
  single := h.single
  voters := h.voters

/-! ## Tables that shrink -/

/-- An own entry as it may go on from another: open only where the other was, and OFFERED only to the same voters. -/
structure OwnEntry.GoesOn (d e : OwnEntry) : Prop where
  isOpen : e.isOpen = true → d.isOpen = true
  offered : ∀ b, e.phase = .offered b → ∃ c, d.phase = .offered c ∧ b.voters = c.voters

theorem OwnEntry.GoesOn.refl (e : OwnEntry) : e.GoesOn e := ⟨id, fun b hb => ⟨b, hb, rfl⟩⟩

/-- A WITHDRAWN entry may follow any entry. -/
theorem OwnEntry.GoesOn.withdrawn (d : OwnEntry) {e : OwnEntry} {b : Ballot} {why : WithdrawReason} {n : Nat}
    (h : e.phase = .withdrawn b why n) : d.GoesOn e :=
  ⟨fun ho => by simp [OwnEntry.isOpen, h] at ho, fun c hc => by simp [h] at hc⟩

/-- A COMMITTED entry may follow an open one. -/
theorem OwnEntry.GoesOn.committed {d e : OwnEntry} {b : Ballot} {c : Cycle} {n : Nat} (hd : d.isOpen = true)
    (h : e.phase = .committed b c n) : d.GoesOn e :=
  ⟨fun _ => hd, fun c hc => by simp [h] at hc⟩

/-- An OFFERED entry may follow an OFFERED one with the same voters. -/
theorem OwnEntry.GoesOn.of_offered {d e : OwnEntry} {b c : Ballot} (hd : d.phase = .offered b) (he : e.phase = .offered c)
    (hv : c.voters = b.voters) : d.GoesOn e where
  isOpen _ := by simp [OwnEntry.isOpen, hd]
  offered x hx := by
    obtain rfl : c = x := by simpa [he] using hx
    exact ⟨b, hd, hv⟩

theorem OwnEntry.GoesOn.without (e : OwnEntry) (k : Station) : e.GoesOn (e.without k) := by
  unfold OwnEntry.without
  split
  · exact .refl e
  next b hb => exact .of_offered hb rfl rfl
  · exact .refl e
  · exact .refl e

theorem OwnEntry.GoesOn.announce (e : OwnEntry) : e.GoesOn e.announce := by
  unfold OwnEntry.announce
  split
  · exact .refl e
  · exact .refl e
  next hp =>
    split
    · exact .committed (by simp [OwnEntry.isOpen, hp]) rfl
    · exact .refl e
  · split
    · exact .withdrawn e rfl
    · exact .refl e

/-- A table that loses entries, or whose own entry goes on, stays lawful. -/
theorem Agreement.Lawful.shrink (h : g.Lawful own state) (hothers : g'.others.Sublist g.others)
    (hown : ∀ e, g'.own = some e → ∃ d, g.own = some d ∧ d.GoesOn e) : g'.Lawful own state where
  keyed := (hothers.map _).nodup h.keyed
  apart e he := h.apart e (hothers.subset he)
  silent hq := by
    obtain ⟨ho, he⟩ := h.silent hq
    refine ⟨Option.eq_none_iff_forall_ne_some.2 fun e he => ?_, List.sublist_nil.1 (he ▸ hothers)⟩
    obtain ⟨d, hd, -⟩ := hown e he
    simp [ho] at hd
  joining hj := Option.eq_none_iff_forall_ne_some.2 fun e he => by
    obtain ⟨d, hd, -⟩ := hown e he
    simp [h.joining hj] at hd
  single := by
    have hopen : g'.own.any (·.isOpen) = true → g.own.any (·.isOpen) = true := by
      simp only [Option.any_eq_true]
      rintro ⟨e, he, ho⟩
      obtain ⟨d, hd, hde⟩ := hown e he
      exact ⟨d, hd, hde.isOpen ho⟩
    have hle : (if g'.own.any (·.isOpen) = true then 1 else 0) ≤ if g.own.any (·.isOpen) = true then 1 else 0 := by
      split
      next ho => exact Nat.le_of_eq (if_pos (hopen ho)).symm
      · exact Nat.zero_le _
    exact Nat.le_trans (Nat.add_le_add hle hothers.countP_le) h.single
  voters e b he hb := by
    obtain ⟨d, hd, hde⟩ := hown e he
    obtain ⟨c, hc, hv⟩ := hde.offered b hb
    exact hv ▸ h.voters d c hd hc

/-- A table that loses entries of other origins stays lawful. -/
theorem Agreement.Lawful.filter (h : g.Lawful own state) (p : OtherEntry → Bool) :
    ({ g with others := g.others.filter p } : Agreement).Lawful own state :=
  h.shrink List.filter_sublist fun e he => ⟨e, he, .refl e⟩

/-- A table without its own entry stays lawful. -/
theorem Agreement.Lawful.dropOwn (h : g.Lawful own state) : ({ g with own := none } : Agreement).Lawful own state :=
  h.shrink (List.Sublist.refl _) nofun

/-- A table whose own entry goes on stays lawful. -/
theorem Agreement.Lawful.setOwn (h : g.Lawful own state) {d e : OwnEntry} (hd : g.own = some d) (he : d.GoesOn e) :
    ({ g with own := some e } : Agreement).Lawful own state :=
  h.shrink (List.Sublist.refl _) fun x hx => ⟨d, hd, by cases hx; exact he⟩

theorem Agreement.Lawful.without (h : g.Lawful own state) (k : Station) : (g.without k).Lawful own state :=
  h.shrink List.filter_sublist fun e he => by
    obtain ⟨d, hd, rfl⟩ := Option.map_eq_some_iff.1 he
    exact ⟨d, hd, .without d k⟩

/-! ## Entries of other origins recorded and changed -/

/-- A change of one origin's entry that keeps its origin keeps the origins of the table. -/
theorem map_origin_update {change : OtherEntry → OtherEntry} (ho : ∀ e, (change e).origin = e.origin) (k : Station)
    (l : List OtherEntry) : (l.map fun e => if e.origin = k then change e else e).map (·.origin) = l.map (·.origin) := by
  rw [List.map_map]
  refine List.map_congr_left fun e _ => ?_
  rw [Function.comp_apply]
  split
  · exact ho e
  · rfl

/-- A change of one origin's entry that keeps its origin, and leaves no two acknowledgements, keeps the table lawful. -/
theorem Agreement.Lawful.of_update (h : g.Lawful own state) (k : Station) {change : OtherEntry → OtherEntry}
    (ho : ∀ e, (change e).origin = e.origin)
    (hs : ({ g with others := g.others.map fun e => if e.origin = k then change e else e } : Agreement).acknowledged ≤ 1) :
    ({ g with others := g.others.map fun e => if e.origin = k then change e else e } : Agreement).Lawful own state where
  keyed := by rw [map_origin_update ho]; exact h.keyed
  apart e he := by
    have horigin := List.mem_map_of_mem (f := (·.origin)) he
    rw [map_origin_update ho] at horigin
    obtain ⟨d, hd, hde⟩ := List.mem_map.1 horigin
    exact hde ▸ h.apart d hd
  silent hq := by simpa using h.silent hq
  joining := h.joining
  single := hs
  voters := h.voters

/-- A change of one origin's entry that keeps its origin and its verdict (R42). -/
theorem Agreement.Lawful.update (h : g.Lawful own state) (k : Station) {change : OtherEntry → OtherEntry}
    (ho : ∀ e, (change e).origin = e.origin) (hv : ∀ e, (change e).verdict = e.verdict) :
    ({ g with others := g.others.map fun e => if e.origin = k then change e else e } : Agreement).Lawful own state := by
  refine h.of_update k ho (le_of_eq_of_le ?_ h.single)
  unfold Agreement.acknowledged
  rw [List.countP_map]
  congr 2
  funext e
  rw [Function.comp_apply]
  split
  · rw [hv]
  · rfl

/-- A verdict that this station gives on the entry of an origin (R38): an acknowledgement only where the conflict check passes. -/
theorem Agreement.Lawful.giveVerdict (h : g.Lawful own state) {k : Station} (hk : k ≠ own) {v : Verdict}
    (hv : v = .ack → g.conflicts own k = false) :
    ({ g with others := g.others.map fun e => if e.origin = k then { e with verdict := some v } else e } : Agreement).Lawful own state := by
  refine h.of_update k (fun _ => rfl) ?_
  unfold Agreement.acknowledged
  rw [List.countP_map]
  by_cases hack : v = .ack
  · obtain ⟨hopen, hothers⟩ : g.own.any (·.isOpen) = false ∧
        (g.others.any fun e => e.origin != k && e.verdict == some .ack) = false := by
      simpa [Agreement.conflicts, hk] using hv hack
    have hcount : g.others.countP ((fun e => e.verdict == some .ack) ∘
        fun e => if e.origin = k then { e with verdict := some v } else e) ≤ (g.others.map (·.origin)).count k := by
      rw [List.count, List.countP_map]
      refine List.countP_mono_left fun e he hp => ?_
      refine Decidable.byContradiction fun hne => ?_
      have hother := List.any_eq_false.1 hothers e he
      simp_all
    rw [if_neg (by simp [hopen]), Nat.zero_add]
    exact Nat.le_trans hcount (List.nodup_iff_count.1 h.keyed k)
  · refine Nat.le_trans (Nat.add_le_add_left (List.countP_mono_left fun e _ hp => ?_) _) h.single
    by_cases he : e.origin = k <;> simp_all

/-- The own entry offered (R27): the conflict check passes, and the own number is among the voters. -/
theorem Agreement.Lawful.offerOwn (h : g.Lawful own state) (ht : state.transmits = true) (hj : state ≠ .joining)
    (hc : g.conflicts own own = false) {e : OwnEntry} {b : Ballot} (hb : e.phase = .offered b) (hv : contains b.voters own = true) :
    ({ g with own := some e } : Agreement).Lawful own state where
  keyed := h.keyed
  apart := h.apart
  silent hq := absurd ht (by simp [hq])
  joining he := absurd he hj
  single := by
    have hnone : g.others.countP (fun e => e.verdict == some .ack) = 0 := by
      refine List.countP_eq_zero.2 fun d hd => ?_
      have := h.apart d hd
      simp only [Agreement.conflicts, Bool.or_eq_false_iff] at hc
      have := List.any_eq_false.1 hc.2 d hd
      simp_all
    unfold Agreement.acknowledged
    rw [hnone]
    split <;> simp
  voters x c hx hc := by
    cases hx
    obtain rfl : b = c := by simpa [hb] using hc
    exact hv

/-- A QUEUED entry (R26) is not open yet. -/
theorem Agreement.Lawful.queueOwn (h : g.Lawful own state) (ht : state.transmits = true) (hj : state ≠ .joining) {e : OwnEntry}
    (hq : e.phase = .queued) (serial : Byte) : ({ g with own := some e, serial := serial } : Agreement).Lawful own state where
  keyed := h.keyed
  apart := h.apart
  silent hs := absurd ht (by simp [hs])
  joining he := absurd he hj
  single := by
    have hle := h.single
    unfold Agreement.acknowledged at hle ⊢
    simp [OwnEntry.isOpen, hq]
    omega
  voters x c hx hc := by
    cases hx
    simp [hq] at hc

/-- A new entry, without a verdict, of an origin that has none (R40). -/
theorem Agreement.Lawful.append (h : g.Lawful own state) (ht : state.transmits = true) {k : Station} (hk : k ≠ own) (o : OfferPart)
    (hnew : ∀ e ∈ g.others, e.origin ≠ k) :
    ({ g with others := g.others ++ [offeredEntry k o] } : Agreement).Lawful own state where
  keyed := by
    rw [List.map_append, List.nodup_append]
    refine ⟨h.keyed, by simp, ?_⟩
    simp only [List.mem_map, List.map_cons, List.map_nil, List.mem_singleton]
    rintro _ ⟨e, he, rfl⟩ _ rfl
    exact hnew e he
  apart e he := by
    rcases List.mem_append.1 he with he | he
    · exact h.apart e he
    · obtain rfl := List.mem_singleton.1 he
      exact hk
  silent hq := absurd ht (by simp [hq])
  joining := h.joining
  single := by
    have hle := h.single
    unfold Agreement.acknowledged at hle ⊢
    simpa [List.countP_append, offeredEntry] using hle
  voters := h.voters

theorem Agreement.Lawful.recorded (h : g.Lawful own state) (ht : state.transmits = true) {k : Station} (hk : k ≠ own) (o : OfferPart) :
    (g.recorded k o).Lawful own state := by
  unfold Agreement.recorded
  split
  next hnone => exact h.append ht hk o fun e he => by simpa using List.find?_eq_none.1 hnone e he
  · split
    · exact h
    · refine (h.filter _).append ht hk o fun e he => ?_
      simpa using (List.mem_filter.1 he).2

theorem Agreement.Lawful.decided (h : g.Lawful own state) (k : Station) (d : DecisionPart) : (g.decided k d).Lawful own state := by
  unfold Agreement.decided
  split
  · split
    · exact h.update k (fun _ => rfl) fun _ => rfl
    · exact h.filter _
  · exact h

end

end Sys2Proof.Machine
end

section
/-! PROOFS. The effective cycle of an announced hold (R59): the operations between two boundaries leave it as it was. -/

namespace Sys2Proof.Machine
open Sys2Proof

@[simp] theorem State.raise_announcedEffective (s : State) (cause : StopCause) :
    (s.raise cause).claims.announcedEffective = s.claims.announcedEffective := by
  cases h : s.claims.stop with
  | none => simp [State.raise_clear cause h]
  | some k => rw [State.raise_set cause h]; split <;> simp

@[simp] theorem State.recogniseInput_announcedEffective (s : State) (n : Fin 4) (high : Bool) :
    (s.recogniseInput n high).claims.announcedEffective = s.claims.announcedEffective := by
  unfold State.recogniseInput; dsimp only; (repeat' split) <;> simp

@[simp] theorem State.raiseActiveInputs_announcedEffective (s : State) :
    s.raiseActiveInputs.claims.announcedEffective = s.claims.announcedEffective :=
  foldl_field (g := fun s => s.claims.announcedEffective) (fun _ _ => by simp) _ _

@[simp] theorem State.takeClearStop_announcedEffective (s : State) :
    s.takeClearStop.1.claims.announcedEffective = s.claims.announcedEffective := by
  have cleared (t : State) : t.clearStop.1.claims.announcedEffective = t.claims.announcedEffective := by
    unfold State.clearStop; dsimp only; split <;> simp
  unfold State.takeClearStop; split <;> simp [cleared]

@[simp] theorem State.takeReport_announcedEffective (s : State) (p : Position) (ready : Bool) :
    (s.takeReport p ready).claims.announcedEffective = s.claims.announcedEffective := by
  unfold State.takeReport; dsimp only; split <;> simp

@[simp] theorem State.setRecord_announcedEffective (s : State) (k : Station) (r : Option ClaimRecord) :
    (s.setRecord k r).claims.announcedEffective = s.claims.announcedEffective := rfl

@[simp] theorem State.firstHeardStop_announcedEffective (s : State) (k : Station) (r : ClaimRecord) (cause : StopCause) (e : Cycle) :
    (s.firstHeardStop k r cause e).claims.announcedEffective = s.claims.announcedEffective := by
  unfold State.firstHeardStop; dsimp only; split <;> simp

@[simp] theorem State.createRecord_announcedEffective (s : State) (k : Station) (stop : Option (StopCause × Cycle)) (hold : Bool)
    (e : Cycle) : (s.createRecord k stop hold e).claims.announcedEffective = s.claims.announcedEffective := by
  unfold State.createRecord; split <;> simp

@[simp] theorem State.takeStopPart_announcedEffective (s : State) (f : Frame) :
    (s.takeStopPart f).claims.announcedEffective = s.claims.announcedEffective := by
  unfold State.takeStopPart; (repeat' split) <;> simp

@[simp] theorem State.takeHoldPart_announcedEffective (s : State) (f : Frame) :
    (s.takeHoldPart f).claims.announcedEffective = s.claims.announcedEffective := by
  unfold State.takeHoldPart; (repeat' split) <;> simp

@[simp] theorem State.takeReferencePart_announcedEffective (s : State) (f : Frame) :
    (s.takeReferencePart f).claims.announcedEffective = s.claims.announcedEffective := by
  unfold State.takeReferencePart; dsimp only; split <;> simp

@[simp] theorem State.takeDecision_announcedEffective (s : State) (k : Station) (d : DecisionPart) :
    (s.takeDecision k d).claims.announcedEffective = s.claims.announcedEffective := by
  unfold State.takeDecision; dsimp only; (repeat' split) <;> simp

@[simp] theorem State.removeMember_announcedEffective (s : State) (k : Station) (reason : RemovalReason) :
    (s.removeMember k reason).claims.announcedEffective = s.claims.announcedEffective := by
  rw [State.removeMember_eq]; split <;> simp [State.removed]

@[simp] theorem State.admitStation_announcedEffective (s : State) (k : Station) (late : Bool) :
    (s.admitStation k late).claims.announcedEffective = s.claims.announcedEffective := by
  unfold State.admitStation; dsimp only; split <;> simp

@[simp] theorem State.admissionTest_announcedEffective (s : State) (k : Station) (c : Cycle) :
    (s.admissionTest k c).claims.announcedEffective = s.claims.announcedEffective := by
  unfold State.admissionTest; dsimp only; split <;> simp

@[simp] theorem State.takeCandidate_announcedEffective (s : State) (f : Frame) :
    (s.takeCandidate f).claims.announcedEffective = s.claims.announcedEffective := by
  unfold State.takeCandidate; dsimp only; (repeat' split) <;> simp

@[simp] theorem State.rosterPublication_announcedEffective (s : State) (k : Station) :
    (s.rosterPublication k).claims.announcedEffective = s.claims.announcedEffective := by
  unfold State.rosterPublication; dsimp only; (repeat' split) <;> simp

end Sys2Proof.Machine
end

section
/-! PROOFS. Every step keeps the frame assembled valid by the content checks of Table 6-5, with the table's law and the pending hold that carry it
(R25, R59, R116): one lemma for each operation, and the induction over a step. -/

namespace Sys2Proof.Machine
open Sys2Proof

/-! ## The invariant, by what it reads -/

/-- The invariant reads the table with the own number and the station state, the pending hold with the cycle, and the frame assembled. -/
theorem frameOk_iff (s : State) : FrameOk s ↔ s.agreement.Lawful s.own s.life.state ∧
    (s.inReset = true → s.life.state = .unconfigured) ∧
    (∀ e, s.claims.announcedEffective = some e → s.life.state.transmits = true ∧ ahead e s.slots.cycle = true) ∧
    ∀ a, s.assembled = some a → contentValid a.frame = true := by
  constructor
  · rintro ⟨⟨hkeyed, hapart, hsilent, hjoining, hreset, hsingle⟩, hvoters, hhold, hassembled⟩
    rw [openAcknowledged_eq] at hsingle
    exact ⟨⟨hkeyed, hapart, hsilent, hjoining, hsingle, hvoters⟩, hreset, hhold, hassembled⟩
  · rintro ⟨⟨hkeyed, hapart, hsilent, hjoining, hsingle, hvoters⟩, hreset, hhold, hassembled⟩
    rw [← openAcknowledged_eq] at hsingle
    exact ⟨⟨hkeyed, hapart, hsilent, hjoining, hreset, hsingle⟩, hvoters, hhold, hassembled⟩

section
variable {s t : State}

theorem FrameOk.lawful (h : FrameOk s) : s.agreement.Lawful s.own s.life.state := ((frameOk_iff s).1 h).1

/-- Only an unconfigured station is held in reset. -/
theorem FrameOk.running (h : FrameOk s) (hl : s.life.state ≠ .unconfigured) : s.inReset ≠ true := fun hr => hl (h.table.reset hr)

/-- In a silent state no hold change is pending. -/
theorem FrameOk.unannounced (h : FrameOk s) (hl : s.life.state.transmits = false) : s.claims.announcedEffective = none :=
  Option.eq_none_iff_forall_ne_some.2 fun e he => by
    obtain ⟨ht, -⟩ := h.hold e he
    simp [hl] at ht

/-- An operation that moves the table lawfully, and nothing else that the invariant reads. -/
theorem FrameOk.of_table (h : FrameOk s) (hr : t.inReset = s.inReset) (hl : t.life.state = s.life.state) (hn : t.store = s.store)
    (hc : t.slots.cycle = s.slots.cycle) (hh : t.claims.announcedEffective = s.claims.announcedEffective)
    (ha : t.assembled = s.assembled) (hg : t.agreement.Lawful s.own s.life.state) : FrameOk t := by
  obtain ⟨-, hreset, hhold, hassembled⟩ := (frameOk_iff s).1 h
  rw [frameOk_iff, State.own, hr, hl, hn, hc, hh, ha]
  exact ⟨hg, hreset, hhold, hassembled⟩

/-- An operation that moves nothing that the invariant reads. -/
theorem FrameOk.of_unmoved (h : FrameOk s) (hr : t.inReset = s.inReset) (hl : t.life.state = s.life.state) (hn : t.store = s.store)
    (hc : t.slots.cycle = s.slots.cycle) (hh : t.claims.announcedEffective = s.claims.announcedEffective)
    (ha : t.assembled = s.assembled) (hg : t.agreement = s.agreement) : FrameOk t :=
  h.of_table hr hl hn hc hh ha (hg ▸ h.lawful)

/-- The frame assembled is dropped. -/
theorem FrameOk.dropFrame (h : FrameOk s) : FrameOk { s with assembled := none } := by
  obtain ⟨hlawful, hreset, hhold, -⟩ := (frameOk_iff s).1 h
  exact (frameOk_iff _).2 ⟨hlawful, hreset, hhold, fun a ha => by simp at ha⟩

/-- A state with an empty table, and no hold change pending. -/
theorem FrameOk.of_empty (hr : t.inReset = true → t.life.state = .unconfigured) (ho : t.agreement.own = none)
    (hothers : t.agreement.others = []) (hh : t.claims.announcedEffective = none)
    (ha : ∀ a, t.assembled = some a → contentValid a.frame = true) : FrameOk t :=
  (frameOk_iff t).2 ⟨.of_empty ho hothers, hr, fun e he => by simp [hh] at he, ha⟩

/-- A change from a silent state to any state, with the table and the pending hold left as they are: empty. -/
theorem FrameOk.of_silent (h : FrameOk s) (hs : s.life.state.transmits = false) (hr : t.inReset = true → t.life.state = .unconfigured)
    (hg : t.agreement = s.agreement) (hh : t.claims.announcedEffective = s.claims.announcedEffective)
    (ha : t.assembled = s.assembled) : FrameOk t := by
  obtain ⟨ho, hothers⟩ := h.table.silent hs
  exact .of_empty hr (hg ▸ ho) (hg ▸ hothers) (hh.trans (h.unannounced hs)) (ha ▸ h.assembled)

/-- A change of kind (a) (Table 5-6). -/
theorem FrameOk.of_silentExit (h : FrameOk s) (hl : s.life.state ≠ .unconfigured) (he : SilentExit s t) : FrameOk t := by
  obtain ⟨-, -, hreset, -⟩ := he.kept
  exact .of_empty (fun hr => absurd (hreset ▸ hr) (h.running hl)) (by rw [he.agreement]) (by rw [he.agreement])
    (by rw [he.claims]; rfl) fun a ha => by simp [he.assembled] at ha

/-- A change of kind (b) (Table 5-6), whatever hold was pending under whatever cycle. -/
theorem FrameOk.rejoin (notice : Option OwnNotice) (hr : s.inReset ≠ true) (ha : ∀ a, s.assembled = some a → contentValid a.frame = true) :
    FrameOk (s.rejoin notice) := by
  have he := State.rejoin_exit s notice
  obtain ⟨-, -, hreset, -⟩ := he.kept
  refine .of_empty (fun h => absurd (hreset ▸ h) hr) he.own.1 (by rw [State.rejoin_eq]) (by rw [he.claims]; rfl) ?_
  rw [he.bus.2]
  exact ha

end

/-! ## The table at requests and limits (R26, R32, R35, R36, R43, R45) -/

section
variable {s : State}

theorem FrameOk.raise (h : FrameOk s) (cause : StopCause) : FrameOk (s.raise cause) := by
  apply h.of_unmoved <;> simp

/-- The own entry goes on. -/
theorem FrameOk.setOwn (h : FrameOk s) {d e : OwnEntry} (hd : s.agreement.own = some d) (he : d.GoesOn e) :
    FrameOk (s.setOwnEntry (some e)) :=
  h.of_table rfl rfl rfl rfl rfl rfl (h.lawful.setOwn hd he)

theorem FrameOk.dropOwn (h : FrameOk s) : FrameOk (s.setOwnEntry none) :=
  h.of_table rfl rfl rfl rfl rfl rfl h.lawful.dropOwn

theorem FrameOk.post (h : FrameOk s) (kind : NoticeKind) (station : Nat) (detail : Byte) (value : BitVec 16) :
    FrameOk (s.post kind station detail value) :=
  h.of_unmoved rfl rfl rfl rfl rfl rfl rfl

/-- A request for an offer queues the own entry at a MEMBER, or changes nothing. -/
theorem FrameOk.takeOffer (h : FrameOk s) (kind : OfferKind) (target : Speed) : FrameOk (s.takeOffer kind target).1 := by
  unfold State.takeOffer
  split
  · exact h
  next hm =>
    have hm : s.life.state = .member := Classical.not_not.1 hm
    split
    · exact h
    · split
      · exact h
      · exact h.of_table rfl rfl rfl rfl rfl rfl (h.lawful.queueOwn (by rw [hm]; rfl) (by simp [hm]) rfl _)

theorem FrameOk.withdrawOffer (h : FrameOk s) : FrameOk s.withdrawOffer.1 := by
  show FrameOk s.withdrawOwn.1
  unfold State.withdrawOwn
  split
  · exact h
  next e he =>
    split
    · exact h.dropOwn.post ..
    · exact (h.setOwn he (.withdrawn e rfl)).post ..
    · exact h
    · exact h

theorem FrameOk.leaveOwn (h : FrameOk s) : FrameOk s.leaveOwn := by
  unfold State.leaveOwn
  split
  · exact h
  next e he =>
    split
    · exact h.dropOwn.post ..
    · exact (h.setOwn he (.withdrawn e rfl)).post ..
    · exact h
    · exact h

/-- The offer at its deadline is the own entry's (R32). -/
theorem State.own_of_ownExpired {e : OwnEntry} {b : Ballot} (h : s.ownExpired = some (e, b)) : s.agreement.own = some e := by
  unfold State.ownExpired at h
  split at h
  · exact nomatch h
  next he =>
    split at h
    · exact nomatch h
    · split at h
      · cases h; exact he
      · exact nomatch h
    · exact nomatch h
    · exact nomatch h

theorem FrameOk.expireOffer (h : FrameOk s) : FrameOk s.expireOffer := by
  unfold State.expireOffer
  split
  · exact h
  next e b hb => exact (h.setOwn (State.own_of_ownExpired hb) (.withdrawn e rfl)).post ..

theorem FrameOk.removeWithdrawn (h : FrameOk s) : FrameOk s.removeWithdrawn := by
  unfold State.removeWithdrawn
  split
  · exact h.dropOwn
  · exact h

theorem FrameOk.endGrace (h : FrameOk s) : FrameOk s.endGrace := by
  unfold State.endGrace
  split
  · exact h.of_table rfl rfl rfl rfl rfl rfl (h.lawful.filter _)
  · exact h

theorem FrameOk.removeMember (h : FrameOk s) (k : Station) (reason : RemovalReason) : FrameOk (s.removeMember k reason) := by
  apply h.of_table
  case hg => rw [State.removeMember_agreement]; exact h.lawful.without k
  all_goals simp

theorem FrameOk.missedLimitEvent (h : FrameOk s) (k : Station) : FrameOk (s.missedLimitEvent k) := by
  unfold State.missedLimitEvent State.takeMissedLimit
  dsimp only
  split
  · split
    · exact h.removeMember k .missed
    · exact h.of_unmoved rfl rfl rfl rfl rfl rfl rfl
  · exact h

/-! ## The parts of a frame (R29, R40 to R43) -/

theorem FrameOk.recordOffer (h : FrameOk s) (ht : s.life.state.transmits = true) {k : Station} (hk : k ≠ s.own) (o : OfferPart) :
    FrameOk (s.recordOffer k o) := by
  rw [State.recordOffer_eq]
  exact h.of_table rfl rfl rfl rfl rfl rfl (h.lawful.recorded ht hk o)

/-- A decision moves the table alike in every station state: what a MEMBER raises besides is no part of it. -/
theorem State.takeDecision_agreement (s : State) (k : Station) (d : DecisionPart) :
    (s.takeDecision k d).agreement = s.agreement.decided k d := by
  unfold State.takeDecision Agreement.decided
  dsimp only
  cases d.outcome with
  | commit =>
    dsimp only
    split
    · rfl
    · split <;> simp
  | withdraw _ => dsimp only; split <;> rfl

theorem FrameOk.takeDecision (h : FrameOk s) (k : Station) (d : DecisionPart) : FrameOk (s.takeDecision k d) := by
  apply h.of_table
  case hg => rw [State.takeDecision_agreement]; exact h.lawful.decided k d
  all_goals simp

theorem FrameOk.takeProposalParts (h : FrameOk s) (ht : s.life.state.transmits = true) {f : Frame} (hf : f.station ≠ s.own) :
    FrameOk (s.takeProposalParts f) := by
  have offered (o : OfferPart) : FrameOk (if f.state = .member ∧ s.life.state ≠ .leaving then s.recordOffer f.station o else s) := by
    split
    · exact h.recordOffer ht hf o
    · exact h
  unfold State.takeProposalParts
  cases f.offer with
  | none => cases f.decision with
    | none => exact h
    | some d => exact h.takeDecision f.station d
  | some o => cases f.decision with
    | none => exact offered o
    | some d => exact (offered o).takeDecision f.station d

/-- The responses collected leave the voters of the own ballot (R29). -/
theorem Ballot.collect_voters (b : Ballot) (k : Station) (v : Verdict) : (b.collect k v).voters = b.voters := by
  unfold Ballot.collect
  split
  · rfl
  · split <;> rfl

theorem Ballot.collects_voters (l : List ResponsePart) (b : Ballot) (k : Station) :
    (l.foldl (fun b r => b.collect k r.verdict) b).voters = b.voters := by
  induction l generalizing b with
  | nil => rfl
  | cons r l ih => rw [List.foldl_cons, ih, Ballot.collect_voters]

theorem FrameOk.collectVerdicts (h : FrameOk s) (k : Station) (responses : List ResponsePart) :
    FrameOk (s.collectVerdicts k responses) := by
  unfold State.collectVerdicts
  split
  · exact h
  next e he =>
    split
    · exact h
    next b hb => exact h.setOwn he (.of_offered hb rfl (Ballot.collects_voters ..))
    · exact h
    · exact h

theorem FrameOk.takeAgreementPart (h : FrameOk s) (ht : s.life.state.transmits = true) {f : Frame} (hf : f.station ≠ s.own) :
    FrameOk (s.takeAgreementPart f) := by
  unfold State.takeAgreementPart
  dsimp only
  split
  · exact (h.takeProposalParts ht hf).collectVerdicts _ _
  · exact h.takeProposalParts ht hf

/-- A state on the way through the parts of a frame: the invariant, in the station state and under the number from before. -/
structure PartsTaken (s t : State) : Prop where
  frame : FrameOk t
  life : t.life = s.life
  store : t.store = s.store

theorem PartsTaken.next {t u : State} (h : PartsTaken s t) (hu : FrameOk u) (hl : u.life = t.life) (hn : u.store = t.store) :
    PartsTaken s u :=
  ⟨hu, hl.trans h.life, hn.trans h.store⟩

/-- The four parts in any of the eight orders (R118). -/
theorem FrameOk.takeParts (h : FrameOk s) (ht : s.life.state.transmits = true) {f : Frame} (hf : f.station ≠ s.own) (order : PartOrder) :
    FrameOk (s.takeParts f order) := by
  unfold State.takeParts
  extract_lets agree reference hold stopTaken
  have agrees (place : Fin 4) {t : State} (h : PartsTaken s t) : PartsTaken s (agree place t) := by
    dsimp only [agree]
    split
    · refine h.next (h.frame.takeAgreementPart ?_ ?_) (by simp) (by simp)
      · rw [h.life]; exact ht
      · rw [State.own, h.store]; exact hf
    · exact h
  have refers {t : State} (h : PartsTaken s t) : PartsTaken s (reference t) :=
    h.next (by apply h.frame.of_unmoved <;> simp [reference]) (by simp [reference]) (by simp [reference])
  have holds {t : State} (h : PartsTaken s t) : PartsTaken s (hold t) :=
    h.next (by apply h.frame.of_unmoved <;> simp [hold]) (by simp [hold]) (by simp [hold])
  have stops {t : State} (h : PartsTaken s t) : PartsTaken s (t.takeStopPart f) :=
    h.next (by apply h.frame.of_unmoved <;> simp) (by simp) (by simp)
  have start : PartsTaken s stopTaken := agrees 1 (stops (agrees 0 ⟨h, rfl, rfl⟩))
  split
  · exact (agrees 3 (holds (agrees 2 (refers start)))).frame
  · exact (agrees 3 (refers (agrees 2 (holds start)))).frame

/-! ## Frames handed on (R117) -/

theorem FrameOk.realign (h : FrameOk s) (k : Station) (endTime bytes : Nat) : FrameOk (s.realign k endTime bytes) := by
  apply h.of_unmoved <;> simp [State.realign_cycle]

theorem FrameOk.takeMemberJoining (h : FrameOk s) (f : Frame) : FrameOk (s.takeMemberJoining f) := by
  unfold State.takeMemberJoining
  extract_lets k e t u
  split
  · exact h.of_unmoved rfl rfl rfl rfl rfl rfl rfl
  · have hu : FrameOk u := (h.removeMember k .restarted).post ..
    apply hu.of_unmoved <;> simp

/-- A member's frame at a MEMBER or a LEAVING station. -/
theorem FrameOk.takeFromMember (h : FrameOk s) (ht : s.life.state.transmits = true) {f : Frame} (hf : f.station ≠ s.own)
    (endTime bytes : Nat) (order : PartOrder) : FrameOk (s.takeFromMember f endTime bytes order) := by
  unfold State.takeFromMember
  extract_lets k t u
  have hheard : FrameOk t := by
    have ha := h.realign k endTime bytes
    apply ha.of_unmoved <;> simp [t]
  have hu : FrameOk u := by apply hheard.of_unmoved <;> simp [u]
  have hut : u.life.state.transmits = true := by simpa [u, t] using ht
  have huf : f.station ≠ u.own := by simpa [u, t, State.own] using hf
  split
  · split
    · exact h
    · exact h.of_unmoved rfl rfl rfl rfl rfl rfl rfl
  · split
    · exact h
    · split
      · exact hheard.takeMemberJoining f
      · split
        · have he : FrameOk (u.takeEvidence f) := hu.of_unmoved rfl rfl rfl rfl rfl rfl rfl
          exact he.takeParts hut huf order
        · exact hu.takeAgreementPart hut huf

/-- A member frame at a JOINING station (R119). -/
theorem FrameOk.takeMemberFrame (h : FrameOk s) (ht : s.life.state.transmits = true) {f : Frame} (hf : f.station ≠ s.own) :
    FrameOk (s.takeMemberFrame f) := by
  have hparts (r : ReferenceUnit) (l : LifeCycle) (hl : l.state = s.life.state) :
      FrameOk (State.takeProposalParts { s with reference := r, life := l } f) :=
    FrameOk.takeProposalParts (s := { s with reference := r, life := l }) (h.of_unmoved rfl hl rfl rfl rfl rfl rfl) (hl ▸ ht) hf
  exact hparts _ _ rfl

theorem FrameOk.foreignIsland (h : FrameOk s) (f : Frame) : FrameOk (s.foreignIsland f) := by
  unfold State.foreignIsland
  dsimp only
  split
  · exact h.raise .foreignIsland
  · exact (h.raise .foreignIsland).of_unmoved rfl rfl rfl rfl rfl rfl rfl

/-- A lost merge adopts the winner's count, and with it drops the hold announced under the own (R100, R107). -/
theorem FrameOk.islandRule (h : FrameOk s) (hl : s.life.state ≠ .unconfigured) {f : Frame} (hf : f.station ≠ s.own)
    (endTime bytes : Nat) : FrameOk (s.islandRule f endTime bytes) := by
  unfold State.islandRule
  split
  · exact h.foreignIsland f
  · split
    · have hj : FrameOk ((s.adoptTiming f endTime bytes).rejoin none) := .rejoin none (h.running hl) h.assembled
      refine hj.takeMemberFrame (by rw [(State.rejoin_exit ..).state]; rfl) ?_
      simpa [State.own] using hf
    · exact h

/-- A frame from outside the member set at a MEMBER (R75). -/
theorem FrameOk.takeFromOutside (h : FrameOk s) (hl : s.life.state ≠ .unconfigured) {f : Frame} (hf : f.station ≠ s.own)
    (endTime bytes : Nat) : FrameOk (s.takeFromOutside f endTime bytes) := by
  have heard (b : Bool) : FrameOk (s.hear f b) := by apply h.of_unmoved <;> simp
  unfold State.takeFromOutside
  extract_lets k t u
  split
  · split
    · exact heard _
    · exact (heard _).of_unmoved rfl rfl rfl rfl rfl rfl rfl
  · split
    · split
      · have ha := h.realign k endTime bytes
        apply ha.of_unmoved <;> simp
      · exact h
    · have hu : FrameOk u ∧ u.life = s.life ∧ u.store = s.store := by
        dsimp only [u]
        split
        · exact ⟨heard _, by simp [t], by simp [t]⟩
        · exact ⟨(heard _).of_unmoved rfl rfl rfl rfl rfl rfl rfl, by simp [t, State.setOutside], by simp [t, State.setOutside]⟩
      obtain ⟨hu, hul, hus⟩ := hu
      exact hu.islandRule (by rw [hul]; exact hl) (by rw [State.own, hus]; exact hf) endTime bytes

theorem FrameOk.goSilent (h : FrameOk s) (hl : s.life.state ≠ .unconfigured) (next : StationState) (isolation : Option IsolationCause)
    (notice : Option OwnNotice) : FrameOk (s.goSilent next isolation notice) :=
  h.of_silentExit hl (State.goSilent_exit ..)

theorem FrameOk.stopListening (h : FrameOk s) (hl : s.life.state = .listening) (notice : Option OwnNotice) :
    FrameOk (s.stopListening notice) := by
  refine h.of_silent (by simp [hl, StationState.transmits]) (fun hr => absurd ?_ (h.running (by simp [hl]))) ?_ ?_ ?_
  · simpa using hr
  all_goals simp [State.stopListening]

theorem FrameOk.takeOwnNumber (h : FrameOk s) (f : Frame) : FrameOk (s.takeOwnNumber f) := by
  unfold State.takeOwnNumber
  cases hl : s.life.state with
  | listening => exact h.stopListening hl _
  | joining => exact h.goSilent (by simp [hl]) _ _ _
  | leaving => exact h.goSilent (by simp [hl]) _ _ _
  | member => exact h.goSilent (by simp [hl]) _ _ _
  | unconfigured => exact h
  | idle => exact h
  | isolated => exact h

/-- The change from LISTENING to JOINING (R94): the count adopted meets no pending hold. -/
theorem FrameOk.startJoining (h : FrameOk s) (hl : s.life.state = .listening) (f : Frame) (endTime bytes : Nat) :
    FrameOk (s.startJoining f endTime bytes) := by
  rw [State.startJoining_eq]
  exact h.of_silent (by simp [hl, StationState.transmits]) (fun hr => absurd hr (h.running (by simp [hl]))) rfl rfl rfl

theorem FrameOk.takeListening (h : FrameOk s) (hl : s.life.state = .listening) {f : Frame} (hf : f.station ≠ s.own)
    (endTime bytes : Nat) : FrameOk (s.takeListening f endTime bytes) := by
  have restarted {t : State} (ht : FrameOk t) : FrameOk t.restartWindow := ht.of_unmoved rfl rfl rfl rfl rfl rfl rfl
  unfold State.takeListening
  split
  · split
    · exact (h.startJoining hl f endTime bytes).takeMemberFrame rfl hf
    · refine restarted ?_
      unfold State.reportMismatch
      dsimp only
      split
      · exact h
      · exact h.of_unmoved rfl rfl rfl rfl rfl rfl rfl
  · split
    · exact restarted h
    · exact h

theorem FrameOk.handOn (h : FrameOk s) (f : Frame) (endTime bytes : Nat) (order : PartOrder) :
    FrameOk (s.handOn f endTime bytes order) := by
  unfold State.handOn
  split
  · exact h.takeOwnNumber f
  next hf =>
    cases hl : s.life.state with
    | unconfigured => exact h
    | idle => exact h
    | isolated => exact h
    | listening => exact h.takeListening hl hf endTime bytes
    | joining =>
      dsimp only
      split
      · exact (h.realign f.station endTime bytes).takeMemberFrame (by simp [hl, StationState.transmits]) (by simpa [State.own] using hf)
      · exact h
    | member =>
      dsimp only
      split
      · exact h.takeFromMember (by rw [hl]; rfl) hf endTime bytes order
      · exact h.takeFromOutside (by simp [hl]) hf endTime bytes
    | leaving =>
      dsimp only
      split
      · exact h.takeFromMember (by rw [hl]; rfl) hf endTime bytes order
      · exact h

theorem FrameOk.receiveWhole (h : FrameOk s) (order : PartOrder) : FrameOk (s.receiveWhole order) := by
  have taken : FrameOk (s.setReceipt none) := h.of_unmoved rfl rfl rfl rfl rfl rfl rfl
  unfold State.receiveWhole
  split
  · exact h
  · split
    · exact h
    · dsimp only
      split
      · split
        · exact taken
        · exact taken.handOn _ _ _ order
      · exact taken

/-! ## The boundary (R44, R51, R60, R131) -/

/-- A hold change pending at a boundary becomes current when its cycle has come, and is one cycle nearer otherwise (R60). -/
theorem settleHold_ahead {c : Cycle} {u : ClaimUnit} (h : ∀ e, u.announcedEffective = some e → ahead e c = true) (e : Cycle)
    (he : (settleHold (c + 1) u).announcedEffective = some e) : u.announcedEffective = some e ∧ ahead e (c + 1) = true := by
  unfold settleHold at he
  split at he
  · exact nomatch he
  next hne =>
    refine ⟨he, ?_⟩
    have ha := h e he
    have hn : e ≠ c + 1 := fun h => hne (h ▸ he)
    simp only [ahead, Bool.or_eq_true, beq_iff_eq] at ha ⊢
    left
    bv_omega

/-- A new cycle begun, with the own claims taken over the boundary. -/
theorem FrameOk.of_newCycle {t : State} (h : FrameOk s) (hr : t.inReset = s.inReset) (hl : t.life.state = s.life.state)
    (hn : t.store = s.store) (hc : t.slots.cycle = s.slots.cycle + 1) (ha : t.assembled = s.assembled) (hg : t.agreement = s.agreement)
    {u : ClaimUnit} (ht : t.claims = settleHold (s.slots.cycle + 1) u) (hu : u.announcedEffective = s.claims.announcedEffective) :
    FrameOk t := by
  obtain ⟨hlawful, hreset, hhold, hassembled⟩ := (frameOk_iff s).1 h
  refine (frameOk_iff t).2 ?_
  rw [State.own, hr, hl, hn, hc, ha, hg, ht]
  refine ⟨hlawful, hreset, fun e he => ?_, hassembled⟩
  obtain ⟨hpending, hahead⟩ := settleHold_ahead (u := u) (fun e he => (hhold e (hu ▸ he)).2) e he
  exact ⟨(hhold e (hu ▸ hpending)).1, hahead⟩

/-- A boundary at a silent station moves the count alone: no hold change is pending. -/
theorem FrameOk.beginCycle (h : FrameOk s) (hl : s.life.state.transmits = false) (timing : Timing) : FrameOk (s.beginCycle timing) :=
  h.of_silent hl h.table.reset rfl rfl rfl

theorem FrameOk.counted (h : FrameOk s) (timing : Timing) : FrameOk (s.counted timing) :=
  h.of_newCycle rfl (LifeCycle.countExclusion_state _) rfl rfl rfl rfl rfl rfl

theorem FrameOk.marked (h : FrameOk s) (timing : Timing) : FrameOk (s.marked timing) :=
  h.of_newCycle rfl rfl rfl rfl rfl rfl rfl rfl

/-- The due entries leave the table (R44). -/
theorem Agreement.Lawful.removeDue {own : Station} {state : StationState} (h : s.agreement.Lawful own state) (new : Cycle) :
    (s.removeDue new).agreement.Lawful own state :=
  h.shrink List.filter_sublist fun e he => ⟨e, (Option.filter_eq_some_iff.1 he).1, .refl e⟩

theorem FrameOk.joiningBoundary (h : FrameOk s) : FrameOk s.joiningBoundary :=
  h.of_table rfl rfl rfl rfl rfl rfl (h.lawful.removeDue _)

theorem FrameOk.supersedeCommits (h : FrameOk s) (new : Cycle) : FrameOk (s.supersedeCommits new) := by
  apply h.of_table
  case hg => rw [State.supersedeCommits_agreement]; exact h.lawful.removeDue new
  all_goals simp

theorem FrameOk.rosterPublication (h : FrameOk s) (k : Station) : FrameOk (s.rosterPublication k) := by
  apply h.of_table
  case hg =>
    rcases s.rosterPublication_agreement k with hk | hk <;> rw [hk]
    · exact h.lawful
    · exact h.lawful.without k
  all_goals simp

theorem FrameOk.publications (h : FrameOk s) (l : List Station) : FrameOk (l.foldl State.rosterPublication s) := by
  induction l generalizing s with
  | nil => exact h
  | cons k l ih => exact ih (h.rosterPublication k)

theorem FrameOk.publish (h : FrameOk s) : FrameOk s.publish := by
  have hpublished : FrameOk s.published := h.of_table rfl rfl rfl rfl rfl rfl (h.lawful.removeDue _)
  rw [State.publish_eq]
  exact hpublished.publications _

theorem FrameOk.pruneIslands (h : FrameOk s) : FrameOk s.pruneIslands := h.of_unmoved rfl rfl rfl rfl rfl rfl rfl

/-- The change from JOINING to MEMBER (R97), with its first publication. -/
theorem FrameOk.becomeMember (h : FrameOk s) (hl : s.life.state = .joining) (set : StationSet) : FrameOk (s.becomeMember set) := by
  obtain ⟨hlawful, hreset, hhold, hassembled⟩ := (frameOk_iff s).1 h
  have hadopted : FrameOk (s.adopted set) :=
    (frameOk_iff _).2 ⟨hlawful.enter rfl nofun, fun hr => absurd hr (h.running (by simp [hl])), fun e he => ⟨rfl, (hhold e he).2⟩,
      hassembled⟩
  rw [State.becomeMember_eq]
  exact hadopted.publish

theorem FrameOk.departures (h : FrameOk s) (l : List Station) : FrameOk (l.foldl State.rosterDeparture s) := by
  induction l generalizing s with
  | nil => exact h
  | cons k l ih =>
    have hk : FrameOk (s.rosterDeparture k) := by
      unfold State.rosterDeparture
      dsimp only
      split
      · exact h.removeMember k .left
      · exact h
    exact ih hk

theorem FrameOk.takeBoundary (h : FrameOk s) (exclusionFirst : Bool) : FrameOk (s.takeBoundary exclusionFirst) := by
  cases ht : s.slots.timing with
  | none => simpa only [State.takeBoundary, ht] using h
  | some timing =>
    have silent (hq : s.life.state.transmits = false) : FrameOk (s.takeBoundary exclusionFirst) := by
      have hw : s.takeBoundary exclusionFirst = s.beginCycle timing := by
        have hs : (s.beginCycle timing).life = s.life := rfl
        simp only [State.takeBoundary, ht, State.boundaryWork, hs]
        cases hl : s.life.state <;> simp [hl, StationState.transmits] at hq ⊢
      rw [hw]
      exact h.beginCycle hq timing
    cases hl : s.life.state with
    | member =>
      rw [State.takeBoundary_member ht hl]
      split
      · exact h.counted timing
      · exact (h.counted timing).publish.pruneIslands
    | joining =>
      rw [State.takeBoundary_joining ht hl]
      split
      · exact (h.marked timing).becomeMember hl _
      · exact (h.marked timing).joiningBoundary
    | leaving =>
      rw [State.takeBoundary_leaving ht hl]
      exact ((h.marked timing).supersedeCommits _).departures _
    | unconfigured => exact silent (by rw [hl]; rfl)
    | idle => exact silent (by rw [hl]; rfl)
    | listening => exact silent (by rw [hl]; rfl)
    | isolated => exact silent (by rw [hl]; rfl)

/-! ## The own-slot start: the table (R27, R30, R31, R38, R47) -/

/-- Where the offer checks pass, so does the conflict check among them (R24, R25). -/
theorem State.conflicts_of_offerCheck {kind : OfferKind} {target : Speed} {voters : Option StationSet} {checked : Station}
    (h : s.offerCheck kind target voters checked = none) : s.agreement.conflicts s.own checked = false := by
  unfold State.offerCheck at h
  extract_lets ramp last at h
  have hlast (hn : last = none) : s.agreement.conflicts s.own checked = false := by
    dsimp only [last] at hn
    split at hn
    · exact nomatch hn
    · split at hn
      · exact nomatch hn
      next hc => simpa using hc
  cases kind with
  | start =>
    dsimp only at h
    split at h
    · exact nomatch h
    · split at h
      · exact nomatch h
      · split at h
        · exact nomatch h
        · exact hlast h
  | rampTo =>
    dsimp only at h
    split at h
    · exact nomatch h
    · split at h
      · exact nomatch h
      · exact hlast h

/-- One verdict acknowledges only where nothing else is acknowledged (R25, R38). -/
theorem FrameOk.giveVerdict (h : FrameOk s) {e : OtherEntry} (he : e.origin ≠ s.own) : FrameOk (s.giveVerdict e) := by
  refine h.of_table rfl rfl rfl rfl rfl rfl (h.lawful.giveVerdict he fun hv => ?_)
  split at hv
  next hc => exact State.conflicts_of_offerCheck hc
  · exact nomatch hv

theorem FrameOk.giveVerdicts (h : FrameOk s) : FrameOk s.giveVerdicts := by
  have fold (l : List OtherEntry) {t : State} (ht : FrameOk t) (hl : ∀ e ∈ l, e.origin ≠ t.own) :
      FrameOk (l.foldl State.giveVerdict t) := by
    induction l generalizing t with
    | nil => exact ht
    | cons e l ih =>
      exact ih (ht.giveVerdict (hl e List.mem_cons_self)) fun d hd => hl d (List.mem_cons_of_mem e hd)
  exact fold _ h fun e he => h.table.apart e (List.mem_filter.1 he).1

/-- A MEMBER is in its own member set (R70). -/
theorem State.contains_memberSet_own (hl : s.life.state = .member ∨ s.life.state = .leaving) : contains s.memberSet s.own = true := by
  rw [State.memberSet, contains_setOf, State.isMember, State.rosterEntry, if_pos rfl]
  rcases hl with hl | hl <;> rw [hl] <;> rfl

theorem FrameOk.dealOwnEntry (h : FrameOk s) (hl : s.life.state = .member) : FrameOk s.dealOwnEntry := by
  unfold State.dealOwnEntry
  split
  · exact h
  next e he =>
    split
    · split
      · exact h.dropOwn.post ..
      next hc =>
        exact h.of_table rfl rfl rfl rfl rfl rfl (h.lawful.offerOwn (by rw [hl]; rfl) (by simp [hl])
          (State.conflicts_of_offerCheck hc) rfl (State.contains_memberSet_own (.inl hl)))
    next b hb =>
      split
      · exact (h.setOwn he (.withdrawn e rfl)).post ..
      · split
        · exact h.setOwn he (.committed (by simp [OwnEntry.isOpen, hb]) rfl)
        · exact h
    · exact h
    · exact h

/-- The state with the table dealt with at an own-slot start, before the own entry's announcement is counted (R47). -/
def State.dealt (s : State) : State := if s.life.state = .member then s.giveVerdicts.dealOwnEntry else s

theorem State.dealt_frame (s : State) : s.dealt.life = s.life ∧ s.dealt.store = s.store := by
  unfold State.dealt; split <;> simp

theorem FrameOk.dealt (h : FrameOk s) : FrameOk s.dealt := by
  unfold State.dealt
  split
  next hl => exact h.giveVerdicts.dealOwnEntry (by simpa using hl)
  · exact h

/-- The table that an own-slot start leaves, and the parts it hands over. -/
theorem State.agreementSlot_eq (s : State) : s.agreementSlot =
    (s.dealt.setOwnEntry (s.dealt.agreement.own.map (·.announce)),
      if s.life.state = .member then s.dealt.agreement.own.bind (·.offer) else none, s.dealt.agreement.own.bind (·.decision),
      if s.life.state = .member then s.dealt.agreement.responses else []) := by
  obtain ⟨hl, -⟩ := s.dealt_frame
  have hs : s.agreementSlot = (s.dealt.setOwnEntry (s.dealt.agreement.own.map (·.announce)),
      if (s.dealt.life.state == .member) = true then s.dealt.agreement.own.bind (·.offer) else none,
      s.dealt.agreement.own.bind (·.decision),
      if (s.dealt.life.state == .member) = true then s.dealt.agreement.responses else []) := rfl
  rw [hs, hl]
  simp only [beq_iff_eq]

theorem FrameOk.agreementSlot (h : FrameOk s) : FrameOk s.agreementSlot.1 := by
  rw [State.agreementSlot_eq]
  cases ho : s.dealt.agreement.own with
  | none => exact h.dealt.dropOwn
  | some e => exact h.dealt.setOwn ho (.announce e)

/-- A hold announced at the own-slot start is two cycles ahead (R59). -/
theorem announceHold_ahead {combined : Bool} {c : Cycle} {u : ClaimUnit} (h : ∀ e, u.announcedEffective = some e → ahead e c = true)
    (e : Cycle) (he : (announceHold combined c u).announcedEffective = some e) : ahead e c = true := by
  unfold announceHold at he
  split at he
  · obtain rfl : lead c = e := Option.some.inj he
    simp only [ahead, lead, Bool.or_eq_true, beq_iff_eq]
    right
    bv_omega
  · exact h e he

theorem FrameOk.claimsSlot (h : FrameOk s) (ht : s.life.state.transmits = true) : FrameOk s.claimsSlot := by
  obtain ⟨hlawful, hreset, hhold, hassembled⟩ := (frameOk_iff s).1 h
  refine (frameOk_iff _).2 ⟨hlawful, hreset, fun e he => ⟨ht, ?_⟩, hassembled⟩
  exact announceHold_ahead (u := { s.claims with stop := announceStop s.slots.cycle s.claims.stop }) (fun e he => (hhold e he).2) e he

theorem FrameOk.lifeSlot (h : FrameOk s) : FrameOk s.lifeSlot := by
  apply h.of_unmoved <;> simp

theorem FrameOk.slotOwners (h : FrameOk s) (ht : s.life.state.transmits = true) : FrameOk s.slotOwners :=
  (h.agreementSlot.claimsSlot (by simpa using ht)).lifeSlot

/-! ## The own-slot start: the frame (Table 6-5) -/

/-- The content checks one by one, as the owner of each part meets them. -/
structure ContentOk (f : Frame) : Prop where
  stop : f.stopCause = none → f.stopEffective = 0
  hold : f.holdEffective = f.cycle ∨ ahead f.holdEffective f.cycle = true
  joining : f.state = .joining → f.restartCause.isSome = true ∧ f.members = 0 ∧ f.offer = none ∧ f.decision = none ∧ f.responses = []
  member : f.state ≠ .joining → f.restartCause = none ∧ f.joiningSince = 0 ∧ contains f.members f.station = true
  leaving : f.state = .leaving → f.offer = none ∧ f.responses = []
  parts : f.offer = none ∨ f.decision = none
  voters : ∀ o, f.offer = some o → contains o.voters f.station = true
  outcome : ∀ d, f.decision = some d → d.outcome = .commit ∨ d.effective = 0
  origins : ∀ r ∈ f.responses, r.origin ≠ f.station
  ascending : ascendingOrigins f.responses = true

theorem contentValid_of_contentOk {f : Frame} (h : ContentOk f) : contentValid f = true := by
  have hstop : (f.stopCause.isSome || f.stopEffective == 0) = true := by
    cases hc : f.stopCause with
    | none => simp [h.stop hc]
    | some c => rfl
  have hhold : (f.holdEffective - f.cycle == 0 || f.holdEffective - f.cycle == 1 || f.holdEffective - f.cycle == 2) = true := by
    rcases h.hold with hh | hh
    · simp [hh]
    · rw [Bool.or_assoc]
      exact Bool.or_eq_true_iff.2 (.inr hh)
  have hparts : (!(f.offer.isSome && f.decision.isSome)) = true := by
    rcases h.parts with hp | hp <;> simp [hp]
  have hvoters : f.offer.all (fun o => contains o.voters f.station) = true := (Option.all_eq_true _ _).2 h.voters
  have houtcome : f.decision.all (fun d => d.outcome == .commit || d.effective == 0) = true :=
    (Option.all_eq_true _ _).2 fun d hd => by simpa using h.outcome d hd
  have horigins : f.responses.all (fun r => r.origin != f.station) = true := by simpa using h.origins
  unfold contentValid
  rw [hstop, hhold, hparts, hvoters, houtcome, horigins, h.ascending]
  have hjoining := h.joining
  have hmember := h.member
  have hleaving := h.leaving
  cases hs : f.state <;> simp_all

/-- Origins in strictly ascending order, as the content check reads them. -/
theorem ascendingOrigins_of_pairwise {l : List ResponsePart} (h : l.Pairwise fun a b => a.origin < b.origin) :
    ascendingOrigins l = true := by
  induction l with
  | nil => rfl
  | cons a l ih =>
    obtain ⟨ha, hl⟩ := List.pairwise_cons.1 h
    cases l with
    | nil => rfl
    | cons b l => simp only [ascendingOrigins, ih hl, Bool.and_true, decide_eq_true_eq]; exact ha b List.mem_cons_self

/-- A response answers the entry of its origin (R39). -/
theorem OtherEntry.response_origin {e : OtherEntry} {r : ResponsePart} (h : e.response = some r) : r.origin = e.origin := by
  unfold OtherEntry.response at h
  split at h
  · obtain ⟨v, -, rfl⟩ := Option.map_eq_some_iff.1 h
    rfl
  · exact nomatch h

theorem Agreement.response_of_other {g : Agreement} {k : Station} {r : ResponsePart} (h : (g.other? k).bind (·.response) = some r) :
    r.origin = k ∧ ∃ e ∈ g.others, e.origin = k := by
  obtain ⟨e, he, hr⟩ := Option.bind_eq_some_iff.1 h
  have hk : e.origin = k := by simpa using List.find?_some he
  exact ⟨(OtherEntry.response_origin hr).trans hk, e, List.mem_of_find?_eq_some he, hk⟩

/-- The responses stand in ascending order of origin (R39). -/
theorem Agreement.responses_ascend (g : Agreement) : g.responses.Pairwise fun a b => a.origin < b.origin := by
  rw [Agreement.responses, List.pairwise_filterMap]
  refine (List.pairwise_lt_finRange 16).imp fun {i j} hij a ha b hb => ?_
  rw [(Agreement.response_of_other ha).1, (Agreement.response_of_other hb).1]
  exact hij

/-- Each response answers another station's entry. -/
theorem Agreement.Lawful.responses_apart {own : Station} {state : StationState} {g : Agreement} (h : g.Lawful own state) :
    ∀ r ∈ g.responses, r.origin ≠ own := by
  intro r hr
  obtain ⟨k, -, hk⟩ := List.mem_filterMap.1 hr
  obtain ⟨hrk, e, he, hek⟩ := Agreement.response_of_other hk
  rw [hrk, ← hek]
  exact h.apart e he

/-- An own entry carries an offer or a decision, not both (R28, R33). -/
theorem OwnEntry.offer_or_decision_none (e : OwnEntry) : e.offer = none ∨ e.decision = none := by
  unfold OwnEntry.offer OwnEntry.decision
  cases e.phase <;> simp

/-- The offer carried is the ballot's. -/
theorem OwnEntry.offer_eq_some {e : OwnEntry} {o : OfferPart} (h : e.offer = some o) : ∃ b, e.phase = .offered b ∧ o.voters = b.voters := by
  unfold OwnEntry.offer at h
  split at h
  · exact nomatch h
  next b hb => exact ⟨b, hb, by cases h; rfl⟩
  · exact nomatch h
  · exact nomatch h

/-- A withdrawal carries no effective cycle (R33). -/
theorem OwnEntry.decision_outcome {e : OwnEntry} {d : DecisionPart} (h : e.decision = some d) : d.outcome = .commit ∨ d.effective = 0 := by
  unfold OwnEntry.decision at h
  split at h
  · exact nomatch h
  · exact nomatch h
  · split at h
    · cases h; exact .inl rfl
    · exact nomatch h
  · split at h
    · cases h; exact .inr rfl
    · exact nomatch h

/-- The proposal parts of the frame: the own entry's offer at a MEMBER, its decision, and a MEMBER's responses (R36, R47). -/
theorem State.slotFrame_parts (s : State) :
    s.slotFrame.offer = (if s.life.state = .member then s.dealt.agreement.own.bind (·.offer) else none) ∧
      s.slotFrame.decision = s.dealt.agreement.own.bind (·.decision) ∧
      s.slotFrame.responses = if s.life.state = .member then s.dealt.agreement.responses else [] := by
  rw [State.slotFrame, State.agreementSlot_eq]
  exact ⟨rfl, rfl, rfl⟩

/-- The frame of an own-slot start passes every content check. -/
theorem FrameOk.slotFrame (h : FrameOk s) (ht : s.life.state.transmits = true) : ContentOk s.slotFrame := by
  obtain ⟨hstation, hcycle, -, -, hmembers⟩ := s.slotFrame_fixed
  obtain ⟨hcause, heffective, -, hhold⟩ := s.slotFrame_claims
  obtain ⟨hoffer, hdecision, hresponses⟩ := s.slotFrame_parts
  have hlawful : s.dealt.agreement.Lawful s.own s.life.state := by
    obtain ⟨hlife, hstore⟩ := s.dealt_frame
    have hl := h.dealt.lawful
    rwa [State.own, hlife, hstore] at hl
  have hstate : s.life.state = .joining ∧ s.slotFrame.state = .joining ∨ s.life.state = .member ∧ s.slotFrame.state = .member ∨
      s.life.state = .leaving ∧ s.slotFrame.state = .leaving := by
    cases hl : s.life.state with
    | joining => exact .inl ⟨rfl, (State.slotFrame_joining hl).1⟩
    | member => exact .inr (.inl ⟨rfl, (State.slotFrame_member hl).1⟩)
    | leaving => exact .inr (.inr ⟨rfl, (State.slotFrame_leaving hl).1⟩)
    | _ => simp [hl, StationState.transmits] at ht
  exact {
    stop := fun hc => by
      have hs : s.claims.stop = none := by simpa [hcause] using hc
      rw [heffective, s.slotOwners_stop.1, hs]; rfl
    hold := by
      rw [hhold, hcycle]
      cases he : s.slotOwners.claims.announcedEffective with
      | none => exact .inl rfl
      | some e => exact .inr (by simpa using ((h.slotOwners ht).hold e he).2)
    joining := fun hj => by
      rcases hstate with ⟨hl, -⟩ | ⟨-, hm⟩ | ⟨-, hm⟩
      · obtain ⟨-, hrestart, -⟩ := State.slotFrame_joining hl
        simp [hrestart, hmembers, hoffer, hdecision, hresponses, hl, hlawful.joining hl]
      · simp [hm] at hj
      · simp [hm] at hj
    member := fun hj => by
      have hset (hl : s.life.state = .member ∨ s.life.state = .leaving) : contains s.slotFrame.members s.slotFrame.station = true := by
        rw [hstation, hmembers, if_neg (by rcases hl with hl | hl <;> simp [hl])]
        exact State.contains_memberSet_own hl
      rcases hstate with ⟨-, hm⟩ | ⟨hl, -⟩ | ⟨hl, -⟩
      · exact absurd hm hj
      · obtain ⟨-, hrestart, hsince, -⟩ := State.slotFrame_member hl
        exact ⟨hrestart, hsince, hset (.inl hl)⟩
      · obtain ⟨-, hrestart, hsince, -⟩ := State.slotFrame_leaving hl
        exact ⟨hrestart, hsince, hset (.inr hl)⟩
    leaving := fun hm => by
      rcases hstate with ⟨-, hj⟩ | ⟨-, hj⟩ | ⟨hl, -⟩
      · simp [hj] at hm
      · simp [hj] at hm
      · simp [hoffer, hresponses, hl]
    parts := by
      rw [hoffer, hdecision]
      split
      · cases s.dealt.agreement.own with
        | none => exact .inl rfl
        | some e => exact e.offer_or_decision_none
      · exact .inl rfl
    voters := fun o ho => by
      rw [hoffer] at ho
      split at ho
      · obtain ⟨e, he, heo⟩ := Option.bind_eq_some_iff.1 ho
        obtain ⟨b, hb, hv⟩ := OwnEntry.offer_eq_some heo
        rw [hv, hstation]
        exact hlawful.voters e b he hb
      · exact nomatch ho
    outcome := fun d hd => by
      obtain ⟨e, -, he⟩ := Option.bind_eq_some_iff.1 (hdecision ▸ hd)
      exact OwnEntry.decision_outcome he
    origins := by
      rw [hresponses, hstation]
      split
      · exact hlawful.responses_apart
      · simp
    ascending := by
      rw [hresponses]
      split
      · exact ascendingOrigins_of_pairwise (Agreement.responses_ascend _)
      · rfl }

/-! ## The own-slot start, the founding, requests and resets -/

theorem FrameOk.slotStartWork (h : FrameOk s) (ht : s.life.state.transmits = true) : FrameOk s.slotStartWork := by
  obtain ⟨hlawful, hreset, hhold, -⟩ := (frameOk_iff _).1 (h.slotOwners ht)
  rw [State.slotStartWork_eq]
  refine (frameOk_iff _).2 ⟨hlawful, hreset, hhold, fun a ha => ?_⟩
  cases ha
  exact contentValid_of_contentOk (h.slotFrame ht)

theorem FrameOk.takeSlotStart (h : FrameOk s) : FrameOk s.takeSlotStart := by
  unfold State.takeSlotStart
  split
  · exact h
  · split
    next hs =>
      obtain ⟨ht, -⟩ := hs
      refine FrameOk.slotStartWork ?_ ht
      exact h.of_unmoved rfl rfl rfl rfl rfl rfl rfl
    · exact h

theorem FrameOk.expireWindow (h : FrameOk s) : FrameOk s.expireWindow := by
  unfold State.expireWindow
  split
  next hl =>
    have hf : FrameOk s.foundLine := by
      rw [State.foundLine_eq]
      exact h.of_silent (by rw [hl]; rfl) (fun hr => absurd hr (h.running (by simp [hl]))) rfl rfl rfl
    exact hf.slotStartWork rfl
  · exact h

theorem FrameOk.expireQuiet (h : FrameOk s) : FrameOk s.expireQuiet := by
  unfold State.expireQuiet
  split
  next hl =>
    obtain ⟨hl, -⟩ := hl
    have ht : FrameOk (s.goSilentAtBoundary .listening) := h.of_silentExit (by simp [hl]) (s.goSilentAtBoundary_exit .listening)
    exact ht.of_unmoved rfl rfl rfl rfl rfl rfl rfl
  · exact h

theorem FrameOk.isolateOnCollisions (h : FrameOk s) : FrameOk s.isolateOnCollisions := by
  unfold State.isolateOnCollisions
  split
  next hl => exact h.goSilent (fun hu => by simp [hu, StationState.transmits] at hl) _ _ _
  · exact h

theorem FrameOk.finishLeaving (h : FrameOk s) : FrameOk s.finishLeaving := by
  unfold State.finishLeaving
  split
  next hl =>
    obtain ⟨hl, -⟩ := hl
    exact h.goSilent (by simp [hl]) _ _ _
  · exact h

theorem FrameOk.exclude (h : FrameOk s) : FrameOk s.exclude := by
  unfold State.exclude
  split
  next hl =>
    obtain ⟨hl, -⟩ := hl
    exact .rejoin _ (h.running (by simp [hl])) h.assembled
  · exact h

theorem FrameOk.endTransmission (h : FrameOk s) : FrameOk s.endTransmission := by
  unfold State.endTransmission
  split
  · exact h
  · exact h.dropFrame.of_unmoved rfl rfl rfl rfl rfl rfl rfl

theorem FrameOk.collide (h : FrameOk s) : FrameOk s.collide := by
  unfold State.collide
  split
  · exact h
  · exact h.dropFrame.of_unmoved rfl rfl rfl rfl rfl rfl rfl

theorem FrameOk.configure (h : FrameOk s) (hr : s.inReset = false) (r : ConfigRecord) : FrameOk (s.configure r).1 := by
  unfold State.configure
  split
  next hl =>
    split
    · exact h
    · refine h.of_silent (by rw [hl]; rfl) (fun ht => ?_) ?_ ?_ ?_
      · simp [hr] at ht
      all_goals simp [State.acceptRecord]
  · exact h

theorem FrameOk.join (h : FrameOk s) (hr : s.inReset = false) : FrameOk s.join.1 := by
  unfold State.join
  split
  next hl =>
    refine h.of_silent (by rcases hl with hl | hl <;> rw [hl] <;> rfl) (fun ht => ?_) rfl rfl rfl
    exact absurd (hr.symm.trans ht) nofun
  · exact h

/-- The change from MEMBER to LEAVING (R105): the table and the hold announced go on. -/
theorem FrameOk.startLeaving (h : FrameOk s) (hl : s.life.state = .member) : FrameOk s.startLeaving := by
  obtain ⟨hlawful, -, hhold, hassembled⟩ := (frameOk_iff s).1 h
  unfold State.startLeaving
  refine FrameOk.leaveOwn ((frameOk_iff _).2 ⟨hlawful.enter rfl nofun, fun hr => absurd hr (h.running (by simp [hl])), fun e he => ?_,
    hassembled⟩)
  exact ⟨rfl, (hhold e he).2⟩

theorem FrameOk.leave (h : FrameOk s) : FrameOk s.leave.1 := by
  unfold State.leave
  cases hl : s.life.state with
  | listening => exact h.stopListening hl none
  | joining => exact h.goSilent (by simp [hl]) _ _ _
  | member =>
    dsimp only
    split
    · exact h.startLeaving hl
    · exact h
  | unconfigured => exact h
  | idle => exact h
  | leaving => exact h
  | isolated => exact h

theorem FrameOk.enterReset (s : State) (cause : RestartCause) : FrameOk (s.enterReset cause) :=
  .of_empty (fun _ => rfl) rfl rfl rfl fun a ha => by simp [State.enterReset, State.reset] at ha

/-- A reset completes at an unconfigured station, whose table is empty under either number. -/
theorem FrameOk.completeReset (h : FrameOk s) (hr : s.inReset = true) (straps : BitVec 4) : FrameOk (s.completeReset straps) :=
  h.of_silent (by rw [h.table.reset hr]; rfl) nofun rfl rfl rfl

end

/-! ## Every step -/

theorem FrameOk.kept : Kept FrameOk where
  port _ _ h := h.of_unmoved rfl rfl rfl rfl rfl rfl rfl
  reset s cause _ := .enterReset s cause
  complete _ straps hr h := h.completeReset hr straps
  recogniseInput _ _ _ _ h := by apply h.of_unmoved <;> simp
  beginTransmission _ _ h := by apply h.of_unmoved <;> simp
  collide _ _ h := h.collide
  isolateOnCollisions _ _ h := h.isolateOnCollisions
  endTransmission _ _ h := h.endTransmission
  receiveWhole _ order _ h := h.receiveWhole order
  abandonOnGap _ _ h := h.of_unmoved rfl rfl rfl rfl rfl rfl rfl
  abandon _ _ _ h := h.of_unmoved rfl rfl rfl rfl rfl rfl rfl
  takeCharacter _ _ _ _ h := by apply h.of_unmoved <;> simp
  closeSlot _ _ _ h := by apply h.of_unmoved <;> simp [State.closeSlot_cycle]
  takeBoundary _ exclusionFirst _ h := h.takeBoundary exclusionFirst
  takeSlotStart _ _ h := h.takeSlotStart
  expireWindow _ _ h := h.expireWindow
  missedLimitEvent _ k _ h := h.missedLimitEvent k
  finishLeaving _ _ h := h.finishLeaving
  removeWithdrawn _ _ h := h.removeWithdrawn
  takeLag _ _ h := h.of_unmoved rfl rfl rfl rfl rfl rfl rfl
  takeSilent _ _ h := by
    unfold State.takeSilent
    split
    · refine FrameOk.raise ?_ .localSilent
      exact h.of_unmoved rfl rfl rfl rfl rfl rfl rfl
    · exact h
  expireOffer _ _ h := h.expireOffer
  endGrace _ _ h := h.endGrace
  exclude _ _ h := h.exclude
  expireQuiet _ _ h := h.expireQuiet
  configure _ record hr h := h.configure hr record
  join _ hr h := h.join hr
  leave _ _ h := h.leave
  takeOffer _ kind target _ h := h.takeOffer kind target
  withdrawOffer _ _ h := h.withdrawOffer
  raiseStop _ _ h := h.raise .localRequest
  clearStop _ _ h := by apply h.of_unmoved <;> simp
  setManualHold _ _ _ h := h.of_unmoved rfl rfl rfl rfl rfl rfl rfl
  report _ p flags _ h := by apply h.of_unmoved <;> simp [State.answerReport]
  answerStatus _ _ h := h.of_unmoved rfl rfl rfl rfl rfl rfl rfl
  answerNotice _ _ h := by apply h.of_unmoved <;> simp

theorem FrameOk.step {s t : State} (hs : FrameOk s) (h : Machine.step s = .next t) : FrameOk t :=
  FrameOk.kept.step (fun _ _ h => h.of_unmoved rfl rfl rfl rfl rfl rfl rfl) (fun _ h => h.of_unmoved rfl rfl rfl rfl rfl rfl rfl) hs h

/-- Settles O59, by the induction over a step of what every operation keeps. -/
theorem stepKeepsAssembledFramesValid : Obligations.StepKeepsAssembledFramesValid := fun _ _ hs h => FrameOk.step hs h

end Sys2Proof.Machine
end

section
/-! PROOFS. The frame in receipt (R122, R127 to R129): what a character, a gap and the reasons of Table 7-4 make of it. -/

namespace Sys2Proof.Machine
open Sys2Proof

/-! ## One more character (R128) -/

/-- A frame is at its expected length once its counts byte has come and gives that length (R112). -/
theorem expectedLength_iff (bytes : List Byte) : expectedLength bytes = some bytes.length ↔
    28 ≤ bytes.length ∧ bytes.length = lengthOfCounts (byteAt bytes 27) := by
  unfold expectedLength Config.fixedPart
  split
  next h => simp only [reduceCtorEq, false_iff]; omega
  next h => simp only [Option.some.injEq]; omega

section
variable {r : Receipt} (data : Byte) (now : Nat)

/-- Within the watch a character abandons the frame, and is discarded itself (R129). -/
theorem Receipt.add_watched (h : r.endTime ≠ none) : r.add data now = none :=
  if_pos (Option.isSome_iff_ne_none.2 h)

theorem Receipt.add_unfinished (he : r.endTime = none)
    (hw : ¬ (28 ≤ (r.bytes ++ [data]).length ∧ (r.bytes ++ [data]).length = lengthOfCounts (byteAt (r.bytes ++ [data]) 27))) :
    r.add data now = some { bytes := r.bytes ++ [data], endTime := none } := by
  rw [← expectedLength_iff] at hw
  simp only [Receipt.add, he, hw]
  rfl

/-- At the expected length the CRC decides (R127). -/
theorem Receipt.add_whole (he : r.endTime = none)
    (hw : 28 ≤ (r.bytes ++ [data]).length ∧ (r.bytes ++ [data]).length = lengthOfCounts (byteAt (r.bytes ++ [data]) 27)) :
    r.add data now =
      if crcAgrees (r.bytes ++ [data]) = true then some { bytes := r.bytes ++ [data], endTime := some now } else none := by
  rw [← expectedLength_iff] at hw
  simp only [Receipt.add, he, hw]
  rfl

end

/-! ## The bus port's frame in receipt -/

section
variable {s : State}

theorem State.receives_iff (s : State) : s.receives = true ↔ s.life.state ≠ .unconfigured ∧ s.bus.transmit = .idle := by
  simp [State.receives]

theorem State.setReceipt_same (s : State) : s.setReceipt s.bus.receipt = s := rfl

/-- A station that does not receive drops every character (R123). -/
theorem State.takeCharacter_deaf (h : ¬ s.receives = true) (data : Byte) (mark : Bool) : s.takeCharacter data mark = s := if_neg h

/-- Mark 1 begins a frame wherever it is found (R122). -/
theorem State.takeCharacter_header (h : s.receives = true) (data : Byte) :
    s.takeCharacter data true = s.setReceipt (some { bytes := [data], endTime := none }) := if_pos h

/-- Mark 0 is added to the frame in receipt (R128). -/
theorem State.takeCharacter_data (h : s.receives = true) (data : Byte) :
    s.takeCharacter data false = s.setReceipt (s.bus.receipt.bind fun r => r.add data s.slots.now) := if_pos h

theorem State.takeCharacter_discarded (h : s.receives = true) (hr : s.bus.receipt = none) (data : Byte) :
    s.takeCharacter data false = s := by
  rw [State.takeCharacter_data h, hr, Option.bind_none, ← hr, State.setReceipt_same]

/-- With no frame in receipt there is none to abandon. -/
theorem State.abandon_none (hr : s.bus.receipt = none) : s.abandonOnGap = s ∧ ∀ why, s.abandon why = s := by
  refine ⟨?_, fun why => ?_⟩
  · rw [State.abandonOnGap, hr, Option.filter_none, ← hr, State.setReceipt_same]
  · rw [State.abandon, hr, Option.filter_none, ← hr, State.setReceipt_same]

/-- A reason that applies discards the frame whole (R129). -/
theorem State.abandon_applies {r : Receipt} {why : AbandonReason} (hr : s.bus.receipt = some r) (h : abandonApplies why r = true) :
    s.abandon why = s.setReceipt none := by
  simp [State.abandon, hr, Option.filter_some, h]

/-- A gap abandons a frame that has not reached its length (R129). -/
theorem State.abandonOnGap_unfinished {r : Receipt} (hr : s.bus.receipt = some r) (he : r.endTime = none) :
    s.abandonOnGap = s.setReceipt none := by
  simp [State.abandonOnGap, hr, Option.filter_some, he]

theorem State.abandonOnGap_finished {r : Receipt} (hr : s.bus.receipt = some r) (he : r.endTime ≠ none) : s.abandonOnGap = s := by
  have hs : r.endTime.isSome = true := Option.isSome_iff_ne_none.2 he
  rw [State.abandonOnGap, hr, Option.filter_some, if_pos hs, ← hr, State.setReceipt_same]

end

/-- Settles O34, by the frame in receipt as it stands before each event. -/
theorem charactersBuildTheFrameInReceipt : Obligations.CharactersBuildTheFrameInReceipt := by
  intro s hr receives with'
  have hreceives : s.receives = true ↔ receives := s.receives_iff
  simp only [exec_characterReceived, exec_gap, exec_frameAbandoned, outOfReset_free hr]
  refine ⟨fun h data mark => ?deaf, fun h data => ⟨?header, fun hn => ?discarded, fun r hrec => ?character⟩, fun hn => ?none,
    fun r hrec => ?some⟩
  case deaf => rw [State.takeCharacter_deaf (mt hreceives.1 h)]
  case header => rw [State.takeCharacter_header (hreceives.2 h)]; rfl
  case discarded => rw [State.takeCharacter_discarded (hreceives.2 h) hn]
  case character =>
    rw [State.takeCharacter_data (hreceives.2 h), hrec, Option.bind_some]
    refine ⟨fun he => ?_, fun he hw => ?_, fun he hw hc => ?_, fun he hw hc => ?_⟩
    · rw [Receipt.add_watched data _ he]; rfl
    · rw [Receipt.add_unfinished data _ he hw]; rfl
    · rw [Receipt.add_whole data _ he hw, if_pos hc]; rfl
    · rw [Receipt.add_whole data _ he hw, if_neg (Bool.eq_false_iff.1 hc)]; rfl
  case none =>
    obtain ⟨hgap, habandon⟩ := State.abandon_none hn
    exact ⟨congrArg _ hgap, fun why => congrArg _ (habandon why)⟩
  case some =>
    have applies (why : AbandonReason) (h : abandonApplies why r = true) : s.abandon why = with' none := State.abandon_applies hrec h
    refine ⟨fun he => ⟨?_, ?_⟩, fun he => ⟨?_, ?_⟩, ?_, ?_, fun hc => ?_⟩
    · rw [State.abandonOnGap_unfinished hrec he]; rfl
    · rw [applies .headerMidFrame (Option.isNone_iff_eq_none.2 he)]
    · rw [State.abandonOnGap_finished hrec he]
    · rw [applies .lengthFailure (Option.isSome_iff_ne_none.2 he)]
    · rw [applies .framingError rfl]
    · rw [applies .ownTransmission rfl]
    · rw [applies .crcDifference (by simp [abandonApplies, hc])]

end Sys2Proof.Machine
end

section
/-! PROOFS. Every step keeps the notice queue within 24 notices, and ATTN_N true to the queue and the mask (R160, R163, R166): the queue after one
post, one lemma for each operation that posts, and the induction over a step. -/

namespace Sys2Proof.Machine
open Sys2Proof

/-! ## The queue after a post and after a reading (R163, R164, R165) -/

/-- The least rank along a queue is the one it began with, or that of a notice in the queue. -/
theorem foldl_min_rank (queue : List Notice) (r : Nat) : queue.foldl (fun r n => min r n.rank) r = r ∨
    ∃ m ∈ queue, m.rank = queue.foldl (fun r n => min r n.rank) r := by
  induction queue generalizing r with
  | nil => exact .inl rfl
  | cons n queue ih =>
    rw [List.foldl_cons]
    rcases ih (min r n.rank) with h | ⟨m, hm, h⟩
    · rw [h]
      rcases Nat.le_total r n.rank with hr | hr
      · exact .inl (Nat.min_eq_left hr)
      · exact .inr ⟨n, List.mem_cons_self, (Nat.min_eq_right hr).symm⟩
    · exact .inr ⟨m, List.mem_cons_of_mem n hm, h⟩

theorem Notice.rank_le (n : Notice) : n.rank ≤ 2 := by
  unfold Notice.rank
  cases n.kind.noticeClass <;> decide

/-- A queue that is not empty holds a notice of its lowest class. -/
theorem exists_lowestRank {queue : List Notice} (h : queue ≠ []) : ∃ m ∈ queue, m.rank = lowestRank queue := by
  cases queue with
  | nil => exact absurd rfl h
  | cons n queue =>
    have hfirst : lowestRank (n :: queue) = queue.foldl (fun r n => min r n.rank) n.rank := by
      rw [lowestRank, List.foldl_cons, Nat.min_eq_right n.rank_le]
    rw [hfirst]
    rcases foldl_min_rank queue n.rank with h | ⟨m, hm, h⟩
    · exact ⟨n, List.mem_cons_self, h.symm⟩
    · exact ⟨m, List.mem_cons_of_mem n hm, h⟩

/-- A post keeps the queue within its capacity: at a full queue one notice is discarded (R164). -/
theorem queuePost_length_le {queue : List Notice} (n : Notice) (h : queue.length ≤ Config.noticeCapacity) :
    (queuePost queue n).length ≤ Config.noticeCapacity := by
  unfold queuePost
  dsimp only
  split
  next hroom =>
    rw [List.length_append]
    exact hroom
  · obtain ⟨m, hm, hrank⟩ := exists_lowestRank (queue := queue ++ [n]) (by simp)
    rw [List.length_eraseP_of_mem hm (by simpa using hrank)]
    simpa using h

theorem queueRead_length_le (queue : List Notice) : (queueRead queue).length ≤ queue.length := List.length_eraseP_le

/-! ## Posts -/

section
variable {s t : State}

/-- What leaves the notices and the store leaves the invariant. -/
theorem NoticesOk.of_unmoved (h : NoticesOk s) (hn : t.notices = s.notices) (hs : t.store = s.store) : NoticesOk t := by
  rw [NoticesOk, State.attentionMask, hn, hs]
  exact h

/-- ATTN_N is re-examined after any change of a queue within its capacity, and of the mask. -/
theorem noticesOk_examined (h : s.notices.queue.length ≤ Config.noticeCapacity) : NoticesOk s.examineAttention := ⟨h, rfl⟩

/-- A post asks of the queue only that it was within its capacity. -/
theorem noticesOk_post (h : s.notices.queue.length ≤ Config.noticeCapacity) (kind : NoticeKind) (station : Nat) (detail : Byte)
    (value : BitVec 16) : NoticesOk (s.post kind station detail value) :=
  noticesOk_examined (queuePost_length_le _ h)

theorem NoticesOk.post (h : NoticesOk s) (kind : NoticeKind) (station : Nat) (detail : Byte) (value : BitVec 16) :
    NoticesOk (s.post kind station detail value) :=
  noticesOk_post h.1 ..

theorem NoticesOk.after (h : NoticesOk s) (posts : List OwnNotice) : NoticesOk { s with notices := s.noticesAfter posts } := by
  induction posts generalizing s with
  | nil => exact h
  | cons n posts ih => exact ih (s := { s with notices := s.noticesAfter [n] }) (h.post ..)

/-- An operation that posts in a row, whatever else it does. -/
theorem NoticesOk.of_posts (h : NoticesOk s) {posts : List OwnNotice} (hn : t.notices = s.noticesAfter posts)
    (hs : t.store = s.store) : NoticesOk t :=
  (h.after posts).of_unmoved hn hs

theorem NoticesOk.atCycle (h : NoticesOk s) (c : Cycle) : NoticesOk (s.atCycle c) := h.of_unmoved rfl rfl

theorem NoticesOk.postStationState (h : NoticesOk s) (previous : StationState) : NoticesOk (s.postStationState previous) := h.post ..

/-- The choice between two operations. -/
theorem NoticesOk.ite {p : Prop} [Decidable p] (hs : NoticesOk s) (ht : NoticesOk t) : NoticesOk (if p then s else t) := by
  split <;> assumption

/-! ## Claims (R50, R54, R56, R62, R63) -/

theorem NoticesOk.raise (h : NoticesOk s) (cause : StopCause) : NoticesOk (s.raise cause) := by
  cases hc : s.claims.stop with
  | none => rw [State.raise_clear cause hc]; exact h.of_posts rfl rfl
  | some k => rw [State.raise_set cause hc]; exact .ite h (h.of_posts rfl rfl)

theorem NoticesOk.raiseInputs (h : NoticesOk s) (inputs : List (Fin 4)) : NoticesOk (s.raiseInputs inputs) := by
  induction inputs generalizing s with
  | nil => exact h
  | cons n inputs ih => exact ih (h.raise (.stopInput n))

theorem NoticesOk.recogniseInput (h : NoticesOk s) (n : Fin 4) (high : Bool) : NoticesOk (s.recogniseInput n high) := by
  unfold State.recogniseInput
  refine .ite h (.ite (NoticesOk.raise ?_ _) ?_) <;> exact h.of_unmoved rfl rfl

theorem NoticesOk.takeClearStop (h : NoticesOk s) : NoticesOk s.takeClearStop.1 := by
  have hc : NoticesOk s.clearStop.1 := by
    unfold State.clearStop
    dsimp only
    split
    · exact h.of_unmoved rfl rfl
    · refine NoticesOk.raise ?_ _
      exact h.of_unmoved rfl rfl
  unfold State.takeClearStop
  split
  · exact h
  · exact hc

theorem NoticesOk.setRecord (h : NoticesOk s) (k : Station) (r : Option ClaimRecord) : NoticesOk (s.setRecord k r) := h.of_unmoved rfl rfl

theorem NoticesOk.firstHeardStop (h : NoticesOk s) (k : Station) (r : ClaimRecord) (cause : StopCause) (e : Cycle) :
    NoticesOk (s.firstHeardStop k r cause e) := by
  have hnoted : NoticesOk (s.stopNoted k r cause e) := (h.setRecord k _).post ..
  rw [State.firstHeardStop_eq]
  exact .ite hnoted (hnoted.of_unmoved (by simp) (by simp))

theorem NoticesOk.createRecord (h : NoticesOk s) (k : Station) (stop : Option (StopCause × Cycle)) (hold : Bool) (e : Cycle) :
    NoticesOk (s.createRecord k stop hold e) := by
  unfold State.createRecord
  extract_lets r
  split
  · exact h.setRecord k _
  · exact h.firstHeardStop k r _ _

theorem NoticesOk.takeStopPart (h : NoticesOk s) (f : Frame) : NoticesOk (s.takeStopPart f) := by
  unfold State.takeStopPart
  split
  · exact h.createRecord ..
  · split
    · exact h.setRecord _ _
    · exact .ite h (h.firstHeardStop ..)

theorem NoticesOk.takeHoldPart (h : NoticesOk s) (f : Frame) : NoticesOk (s.takeHoldPart f) := by
  unfold State.takeHoldPart
  split
  · exact h
  · exact .ite (.ite (h.setRecord _ _) (.ite (h.setRecord _ _) ((h.setRecord _ _).raise _))) h

/-! ## The reference part, the follower's reports and the report supervision (R19, R147, R148) -/

theorem NoticesOk.takeReferencePart (h : NoticesOk s) (f : Frame) : NoticesOk (s.takeReferencePart f) := by
  unfold State.takeReferencePart
  refine .ite (NoticesOk.raise ?_ _) ?_ <;> exact h.of_unmoved rfl rfl

theorem NoticesOk.takeReport (h : NoticesOk s) (p : Position) (ready : Bool) : NoticesOk (s.takeReport p ready) := by
  unfold State.takeReport
  refine .ite (NoticesOk.raise ?_ _) ?_ <;> exact h.of_unmoved rfl rfl

theorem NoticesOk.takeSilent (h : NoticesOk s) : NoticesOk s.takeSilent := by
  unfold State.takeSilent
  refine .ite (NoticesOk.raise ?_ _) h
  exact h.of_unmoved rfl rfl

/-! ## The proposal table (R27, R31, R32, R35, R36, R42) -/

theorem NoticesOk.setOwnEntry (h : NoticesOk s) (e : Option OwnEntry) : NoticesOk (s.setOwnEntry e) := h.of_unmoved rfl rfl

theorem NoticesOk.dealOwnEntry (h : NoticesOk s) : NoticesOk s.dealOwnEntry := by
  unfold State.dealOwnEntry
  split
  · exact h
  · split
    · split
      · exact (h.setOwnEntry none).post ..
      · exact h.setOwnEntry _
    · split
      · exact (h.setOwnEntry _).post ..
      · exact .ite (h.setOwnEntry _) h
    · exact h
    · exact h

theorem NoticesOk.withdrawOwn (h : NoticesOk s) : NoticesOk s.withdrawOwn.1 := by
  unfold State.withdrawOwn
  split
  · exact h
  · split
    · exact (h.setOwnEntry none).post ..
    · exact (h.setOwnEntry _).post ..
    · exact h
    · exact h

theorem NoticesOk.leaveOwn (h : NoticesOk s) : NoticesOk s.leaveOwn := by
  unfold State.leaveOwn
  split
  · exact h
  · split
    · exact (h.setOwnEntry none).post ..
    · exact (h.setOwnEntry _).post ..
    · exact h
    · exact h

theorem NoticesOk.expireOffer (h : NoticesOk s) : NoticesOk s.expireOffer := by
  unfold State.expireOffer
  split
  · exact h
  · exact (h.setOwnEntry _).post ..

theorem NoticesOk.takeDecision (h : NoticesOk s) (k : Station) (d : DecisionPart) : NoticesOk (s.takeDecision k d) := by
  unfold State.takeDecision
  extract_lets held
  split
  · exact .ite (h.of_unmoved rfl rfl) (.ite (h.raise _) h)
  · exact .ite (h.of_unmoved rfl rfl) h

theorem NoticesOk.takeProposalParts (h : NoticesOk s) (f : Frame) : NoticesOk (s.takeProposalParts f) := by
  unfold State.takeProposalParts
  extract_lets t
  have ht : NoticesOk t := by
    dsimp only [t]
    split
    · exact h
    · exact .ite (h.of_unmoved (by simp) (by simp)) h
  split
  · exact ht
  · exact ht.takeDecision _ _

theorem NoticesOk.takeAgreementPart (h : NoticesOk s) (f : Frame) : NoticesOk (s.takeAgreementPart f) :=
  .ite ((h.takeProposalParts f).of_unmoved (by simp) (by simp)) (h.takeProposalParts f)

/-- The four parts of a member's frame in any of the eight orders (R118). -/
theorem NoticesOk.takeParts (h : NoticesOk s) (f : Frame) (order : PartOrder) : NoticesOk (s.takeParts f order) := by
  unfold State.takeParts
  extract_lets agree reference hold stopTaken
  have agrees (place : Fin 4) {t : State} (ht : NoticesOk t) : NoticesOk (agree place t) := .ite (ht.takeAgreementPart f) ht
  have refers {t : State} (ht : NoticesOk t) : NoticesOk (reference t) := ht.takeReferencePart f
  have holds {t : State} (ht : NoticesOk t) : NoticesOk (hold t) := ht.takeHoldPart f
  have start : NoticesOk stopTaken := agrees 1 ((agrees 0 h).takeStopPart f)
  exact .ite (agrees 3 (holds (agrees 2 (refers start)))) (agrees 3 (refers (agrees 2 (holds start))))

/-! ## The roster (R78, R79, R81 to R85) -/

theorem NoticesOk.setEntry (h : NoticesOk s) (k : Station) (entry : RosterEntry) : NoticesOk (s.setEntry k entry) := h.of_unmoved rfl rfl

theorem NoticesOk.removeMember (h : NoticesOk s) (k : Station) (reason : RemovalReason) : NoticesOk (s.removeMember k reason) := by
  have hremoved : NoticesOk (s.removed k reason) := h.of_posts rfl rfl
  rw [State.removeMember_eq]
  exact .ite (hremoved.raise _) hremoved

theorem NoticesOk.admitStation (h : NoticesOk s) (k : Station) (late : Bool) : NoticesOk (s.admitStation k late) := by
  unfold State.admitStation
  extract_lets e t u
  have hu : NoticesOk u := (h.setEntry k _).post ..
  split <;> exact hu.createRecord ..

theorem NoticesOk.admissionTest (h : NoticesOk s) (k : Station) (c : Cycle) : NoticesOk (s.admissionTest k c) :=
  .ite (h.setEntry k _) (h.admitStation k true)

theorem NoticesOk.takeCandidate (h : NoticesOk s) (f : Frame) : NoticesOk (s.takeCandidate f) := by
  unfold State.takeCandidate
  extract_lets k e t u
  have hu : NoticesOk u := .ite (h.setEntry k _) ((h.setEntry k _).post ..)
  exact .ite (h.setEntry k _) (.ite (hu.admissionTest k _) hu)

theorem NoticesOk.takeMemberJoining (h : NoticesOk s) (f : Frame) : NoticesOk (s.takeMemberJoining f) := by
  unfold State.takeMemberJoining
  extract_lets k e t u
  have hu : NoticesOk u := (h.removeMember k .restarted).post ..
  exact .ite (h.setEntry k _) (hu.takeCandidate f)

theorem NoticesOk.missedLimitEvent (h : NoticesOk s) (k : Station) : NoticesOk (s.missedLimitEvent k) :=
  .ite (.ite (h.removeMember k .missed) (h.setEntry k _)) h

theorem NoticesOk.rosterPublication (h : NoticesOk s) (k : Station) : NoticesOk (s.rosterPublication k) :=
  .ite h (.ite (h.removeMember k .left) (.ite (.ite (h.admitStation k false) (h.setEntry k _)) h))

theorem NoticesOk.rosterDeparture (h : NoticesOk s) (k : Station) : NoticesOk (s.rosterDeparture k) := .ite (h.removeMember k .left) h

/-- An operation of the roster, station after station. -/
theorem NoticesOk.stations {f : State → Station → State} (hf : ∀ {s : State}, NoticesOk s → ∀ k, NoticesOk (f s k)) (l : List Station)
    (h : NoticesOk s) : NoticesOk (l.foldl f s) := by
  induction l generalizing s with
  | nil => exact h
  | cons k l ih => exact ih (hf h k)

/-! ## Changes of station state (Table 5-6) -/

theorem NoticesOk.goSilent (h : NoticesOk s) (next : StationState) (isolation : Option IsolationCause) (notice : Option OwnNotice) :
    NoticesOk (s.goSilent next isolation notice) := by
  rw [State.goSilent_eq]
  exact (h.atCycle 0).of_posts rfl rfl

theorem NoticesOk.rejoin (h : NoticesOk s) (notice : Option OwnNotice) : NoticesOk (s.rejoin notice) := by
  obtain ⟨-, hstore, -, -⟩ := (s.rejoin_exit notice).kept
  refine h.of_posts (posts := notice.toList ++ stationStateNotice .joining s.life.state :: discardNotices s.agreement.own) ?_ hstore
  rw [State.rejoin_eq]

theorem NoticesOk.stopListening (h : NoticesOk s) (notice : Option OwnNotice) : NoticesOk (s.stopListening notice) := by
  rw [State.stopListening_eq]
  exact h.of_posts rfl rfl

theorem NoticesOk.startLeaving (h : NoticesOk s) : NoticesOk s.startLeaving := by
  unfold State.startLeaving
  refine NoticesOk.leaveOwn (NoticesOk.postStationState ?_ _)
  exact h.of_unmoved (by simp) (by simp)

/-! ## Frames handed on (R117) -/

theorem NoticesOk.realign (h : NoticesOk s) (k : Station) (endTime bytes : Nat) : NoticesOk (s.realign k endTime bytes) :=
  h.of_unmoved (by simp) (by simp)

theorem NoticesOk.hear (h : NoticesOk s) (f : Frame) (ownSlot : Bool) : NoticesOk (s.hear f ownSlot) :=
  h.of_unmoved (by simp) (by simp)

theorem NoticesOk.takeMemberFrame (h : NoticesOk s) (f : Frame) : NoticesOk (s.takeMemberFrame f) := by
  unfold State.takeMemberFrame
  extract_lets view admitting
  refine NoticesOk.takeProposalParts ?_ f
  exact h.of_unmoved rfl rfl

theorem NoticesOk.takeListening (h : NoticesOk s) (f : Frame) (endTime bytes : Nat) : NoticesOk (s.takeListening f endTime bytes) := by
  have hjoined : NoticesOk (s.startJoining f endTime bytes) := by
    rw [State.startJoining_eq]
    exact (h.atCycle f.cycle).of_posts rfl rfl
  have hreported : NoticesOk (s.reportMismatch f) := .ite h ((h.post ..).of_unmoved rfl rfl)
  exact .ite (.ite (hjoined.takeMemberFrame f) (hreported.of_unmoved rfl rfl)) (.ite (h.of_unmoved rfl rfl) h)

theorem NoticesOk.takeOwnNumber (h : NoticesOk s) (f : Frame) : NoticesOk (s.takeOwnNumber f) := by
  unfold State.takeOwnNumber
  split
  · exact h.stopListening _
  · exact h.goSilent ..
  · exact h.goSilent ..
  · exact h.goSilent ..
  all_goals exact h

theorem NoticesOk.takeFromMember (h : NoticesOk s) (f : Frame) (endTime bytes : Nat) (order : PartOrder) :
    NoticesOk (s.takeFromMember f endTime bytes order) := by
  unfold State.takeFromMember
  extract_lets k t u
  have ht : NoticesOk t := (h.realign k endTime bytes).hear f true
  have hu : NoticesOk u := ht.of_unmoved (by simp [u]) (by simp [u])
  have hevidence : NoticesOk (u.takeEvidence f) := hu.of_unmoved rfl rfl
  exact .ite (.ite h ((h.setEntry k _).post ..))
    (.ite h (.ite (ht.takeMemberJoining f) (.ite (hevidence.takeParts f order) (hu.takeAgreementPart f))))

theorem NoticesOk.islandRule (h : NoticesOk s) (f : Frame) (endTime bytes : Nat) : NoticesOk (s.islandRule f endTime bytes) := by
  have hraised := h.raise .foreignIsland
  have hmerged : NoticesOk (s.adoptTiming f endTime bytes) := h.of_unmoved rfl rfl
  exact .ite (.ite hraised ((hraised.post ..).of_unmoved rfl rfl)) (.ite ((hmerged.rejoin none).takeMemberFrame f) h)

theorem NoticesOk.takeFromOutside (h : NoticesOk s) (f : Frame) (endTime bytes : Nat) : NoticesOk (s.takeFromOutside f endTime bytes) := by
  have heard (b : Bool) : NoticesOk (s.hear f b) := h.hear f b
  unfold State.takeFromOutside
  extract_lets k t u
  have hu : NoticesOk u := .ite (heard _) ((heard _).setEntry k _)
  exact .ite (.ite (heard _) (((heard _).setEntry k _).post ..))
    (.ite (.ite (((h.realign k endTime bytes).hear f true).takeCandidate f) h) (hu.islandRule f endTime bytes))

theorem NoticesOk.handOn (h : NoticesOk s) (f : Frame) (endTime bytes : Nat) (order : PartOrder) :
    NoticesOk (s.handOn f endTime bytes order) := by
  unfold State.handOn
  refine .ite (h.takeOwnNumber f) ?_
  cases s.life.state with
  | unconfigured => exact h
  | idle => exact h
  | isolated => exact h
  | listening => exact h.takeListening f endTime bytes
  | joining => exact .ite ((h.realign _ _ _).takeMemberFrame f) h
  | member => exact .ite (h.takeFromMember f _ _ order) (h.takeFromOutside f _ _)
  | leaving => exact .ite (h.takeFromMember f _ _ order) h

theorem NoticesOk.receiveWhole (h : NoticesOk s) (order : PartOrder) : NoticesOk (s.receiveWhole order) := by
  have taken : NoticesOk (s.setReceipt none) := h.of_unmoved rfl rfl
  unfold State.receiveWhole
  split
  · exact h
  · split
    · exact h
    · refine .ite ?_ taken
      split
      · exact taken
      · exact taken.handOn _ _ _ order

/-! ## The boundary and the own-slot start -/

theorem NoticesOk.publish (h : NoticesOk s) : NoticesOk s.publish := by
  have hpublished : NoticesOk s.published := h.of_posts s.published_notices rfl
  rw [State.publish_eq]
  exact .stations NoticesOk.rosterPublication _ hpublished

theorem NoticesOk.becomeMember (h : NoticesOk s) (set : StationSet) : NoticesOk (s.becomeMember set) := by
  have hadopted : NoticesOk (s.adopted set) := h.of_posts rfl rfl
  exact hadopted.publish

theorem NoticesOk.leavingBoundary (h : NoticesOk s) : NoticesOk s.leavingBoundary := by
  have hdue : NoticesOk (s.removeDue s.slots.cycle) := h.of_unmoved rfl rfl
  have hsuperseded : NoticesOk (s.supersedeCommits s.slots.cycle) := by
    unfold State.supersedeCommits
    extract_lets t
    split
    · exact hdue
    · exact .ite (hdue.post ..) hdue
  exact .stations NoticesOk.rosterDeparture _ hsuperseded

theorem NoticesOk.pruneIslands (h : NoticesOk s) : NoticesOk s.pruneIslands := h.of_unmoved rfl rfl

theorem NoticesOk.memberBoundary (h : NoticesOk s) (exclusionFirst : Bool) : NoticesOk (s.memberBoundary exclusionFirst) := by
  have ht : NoticesOk { s with life := s.life.countExclusion, claims := claimsBoundary s.slots.cycle s.claims } := h.of_unmoved rfl rfl
  exact .ite ht ht.publish.pruneIslands

theorem NoticesOk.boundaryWork (h : NoticesOk s) (exclusionFirst : Bool) : NoticesOk (s.boundaryWork exclusionFirst) := by
  have hmarked : NoticesOk s.markOwnClaims := h.of_unmoved rfl rfl
  unfold State.boundaryWork
  cases s.life.state with
  | member => exact h.memberBoundary exclusionFirst
  | joining =>
    dsimp only
    split
    · exact hmarked.becomeMember _
    · exact hmarked.of_unmoved rfl rfl
  | leaving => exact hmarked.leavingBoundary
  | unconfigured => exact h
  | idle => exact h
  | listening => exact h
  | isolated => exact h

theorem NoticesOk.takeBoundary (h : NoticesOk s) (exclusionFirst : Bool) : NoticesOk (s.takeBoundary exclusionFirst) := by
  unfold State.takeBoundary
  split
  · exact h
  next timing _ => exact (h.of_unmoved (t := s.beginCycle timing) rfl rfl).boundaryWork exclusionFirst

theorem NoticesOk.slotStartWork (h : NoticesOk s) : NoticesOk s.slotStartWork := by
  have hverdicts : NoticesOk s.giveVerdicts := h.of_unmoved (by simp) (by simp)
  have hdealt : NoticesOk s.dealt := .ite hverdicts.dealOwnEntry h
  have hslot : NoticesOk s.agreementSlot.1 := by
    rw [State.agreementSlot_eq]
    exact hdealt.setOwnEntry _
  have hclaims : NoticesOk s.agreementSlot.1.claimsSlot := hslot.of_unmoved rfl rfl
  have howners : NoticesOk s.slotOwners := hclaims.of_unmoved (by simp [State.slotOwners]) (by simp)
  rw [State.slotStartWork_eq]
  exact howners.of_unmoved rfl rfl

theorem NoticesOk.takeSlotStart (h : NoticesOk s) : NoticesOk s.takeSlotStart := by
  unfold State.takeSlotStart
  split
  · exact h
  · exact .ite (NoticesOk.slotStartWork (h.of_unmoved rfl rfl)) h

theorem NoticesOk.expireWindow (h : NoticesOk s) : NoticesOk s.expireWindow := by
  have hfound : NoticesOk s.foundLine := by
    rw [State.foundLine_eq]
    exact (h.atCycle 0).of_posts rfl rfl
  exact .ite hfound.slotStartWork h

/-! ## Limits, requests and resets -/

theorem NoticesOk.expireQuiet (h : NoticesOk s) : NoticesOk s.expireQuiet := by
  have hsilent : NoticesOk (s.goSilentAtBoundary .listening) := by
    rw [State.goSilentAtBoundary_eq]
    exact h.of_posts rfl rfl
  exact .ite (hsilent.of_unmoved rfl rfl) h

/-- Acceptance brings a new mask, under which ATTN_N is re-examined (R166). -/
theorem NoticesOk.configure (h : NoticesOk s) (r : ConfigRecord) : NoticesOk (s.configure r).1 := by
  have hkept : NoticesOk (s.recordKept r) := ⟨queuePost_length_le _ h.1, rfl⟩
  unfold State.configure
  split
  next hl =>
    split
    · exact h
    · rw [State.acceptRecord_eq r hl]
      exact hkept.raiseInputs _
  · exact h

theorem NoticesOk.startListening (h : NoticesOk s) : NoticesOk s.startListening :=
  h.of_posts (posts := [stationStateNotice .listening s.life.state]) rfl rfl

theorem NoticesOk.join (h : NoticesOk s) : NoticesOk s.join.1 := by
  unfold State.join
  split
  · exact h.startListening
  · exact h

theorem NoticesOk.leave (h : NoticesOk s) : NoticesOk s.leave.1 := by
  unfold State.leave
  cases s.life.state with
  | listening => exact h.stopListening none
  | joining => exact h.goSilent ..
  | member =>
    dsimp only
    split
    · exact h.startLeaving
    · exact h
  | unconfigured => exact h
  | idle => exact h
  | leaving => exact h
  | isolated => exact h

/-- READ_NOTICE takes a notice from the queue (R165). -/
theorem NoticesOk.answerNotice (h : NoticesOk s) : NoticesOk s.answerNotice.1 := by
  unfold State.answerNotice
  split
  · exact h
  · exact noticesOk_examined (Nat.le_trans (queueRead_length_le _) h.1)

theorem NoticesOk.enterReset (s : State) (cause : RestartCause) : NoticesOk (s.enterReset cause) := ⟨Nat.zero_le _, rfl⟩

/-- A completed reset leaves the RESTARTED notice alone (R160). -/
theorem NoticesOk.completeReset (s : State) (straps : BitVec 4) : NoticesOk (s.completeReset straps) :=
  ⟨queuePost_length_le (queue := []) _ (Nat.zero_le _), rfl⟩

end

/-! ## Every step -/

theorem NoticesOk.kept : Kept NoticesOk where
  port _ _ h := h.of_unmoved rfl rfl
  reset s cause _ := .enterReset s cause
  complete s straps _ _ := .completeReset s straps
  recogniseInput _ n high _ h := h.recogniseInput n high
  beginTransmission _ _ h := h.of_unmoved (by simp) (by simp)
  collide _ _ h := h.of_unmoved (by simp) (by simp)
  isolateOnCollisions _ _ h := .ite (h.goSilent ..) h
  endTransmission _ _ h := h.of_unmoved (by simp) (by simp)
  receiveWhole _ order _ h := h.receiveWhole order
  abandonOnGap _ _ h := h.of_unmoved rfl rfl
  abandon _ _ _ h := h.of_unmoved rfl rfl
  takeCharacter _ _ _ _ h := h.of_unmoved (by simp) (by simp)
  closeSlot _ _ _ h := h.of_unmoved (by simp) (by simp)
  takeBoundary _ exclusionFirst _ h := h.takeBoundary exclusionFirst
  takeSlotStart _ _ h := h.takeSlotStart
  expireWindow _ _ h := h.expireWindow
  missedLimitEvent _ k _ h := h.missedLimitEvent k
  finishLeaving _ _ h := .ite (h.goSilent ..) h
  removeWithdrawn _ _ h := h.of_unmoved (by simp) (by simp)
  takeLag _ _ h := h.of_unmoved rfl rfl
  takeSilent _ _ h := h.takeSilent
  expireOffer _ _ h := h.expireOffer
  endGrace _ _ h := h.of_unmoved (by simp) (by simp)
  exclude _ _ h := .ite (h.rejoin _) h
  expireQuiet _ _ h := h.expireQuiet
  configure _ record _ h := h.configure record
  join _ _ h := h.join
  leave _ _ h := h.leave
  takeOffer _ _ _ _ h := h.of_unmoved (by simp) (by simp)
  withdrawOffer _ _ h := h.withdrawOwn
  raiseStop _ _ h := h.raise .localRequest
  clearStop _ _ h := h.takeClearStop
  setManualHold _ _ _ h := h.of_unmoved rfl rfl
  report _ p _ _ h := h.takeReport p _
  answerStatus _ _ h := ⟨h.1, h.2⟩
  answerNotice _ _ h := h.answerNotice

theorem NoticesOk.step {s t : State} (hs : NoticesOk s) (h : Machine.step s = .next t) : NoticesOk t :=
  NoticesOk.kept.step (fun _ _ h => h.of_unmoved rfl rfl) (fun _ h => h.of_unmoved rfl rfl) hs h

end Sys2Proof.Machine
end

section
/-! PROOFS. Every step keeps the bus port's lines with its transmission, slot timing to the transmitting states, and the accepted record to the
configured ones (R121, R130, R169, R170): the station state with the blocks that follow it, one lemma for each operation, and the induction over a
step. -/

namespace Sys2Proof.Machine
open Sys2Proof

/-! ## The relation -/

/-- A change from s to t keeps each of the three invariants on its own. -/
structure LineKept (s t : State) : Prop where
  bus : BusOk s → BusOk t
  timing : TimingOk s → TimingOk t
  store : StoreOk s → StoreOk t

theorem LineKept.refl (s : State) : LineKept s s := ⟨id, id, id⟩

theorem LineKept.trans {s t u : State} (a : LineKept s t) (b : LineKept t u) : LineKept s u :=
  ⟨b.bus ∘ a.bus, b.timing ∘ a.timing, b.store ∘ a.store⟩

/-- The choice between two operations. -/
theorem LineKept.ite {s t u : State} {p : Prop} [Decidable p] (ht : p → LineKept s t) (hu : ¬ p → LineKept s u) :
    LineKept s (if p then t else u) := by
  split
  · exact ht ‹_›
  · exact hu ‹_›

/-- A bus port that sends nothing, with no frame assembled. -/
theorem busOk_silent {s : State} (ht : s.bus.transmit = .idle) (hb : s.bus.bde = false) (hx : s.bus.btxIdle = true)
    (ha : s.assembled = none) (hc : s.bus.collisions ≤ Config.collisionLimit) : BusOk s where
  driver := by rw [hb, ht]; rfl
  level := by rw [hx, hb]; rfl
  sending h := by simp [hb] at h
  assembled h := by simp [ha] at h
  collisions := hc

section
variable {s t : State}

/-- The bus port as it is, under a station state that transmits as the one before it. -/
theorem BusOk.of_port (h : BusOk s) (hb : t.bus = s.bus) (ha : t.assembled = s.assembled)
    (hl : s.assembled.isSome = true → t.life.state.transmits = true) : BusOk t where
  driver := by rw [hb]; exact h.driver
  level := by rw [hb]; exact h.level
  sending hd := by rw [ha]; exact h.sending (hb ▸ hd)
  assembled hs := hl (ha ▸ hs)
  collisions := by rw [hb]; exact h.collisions

/-- Only an unconfigured station is held in reset. -/
theorem StoreOk.running (h : StoreOk s) (hs : s.life.state ≠ .unconfigured) : s.inReset ≠ true := fun hr => hs (h.reset hr)

/-- The accepted record as it is, from a configured state to another. -/
theorem StoreOk.of_configured (h : StoreOk s) (hs : s.life.state ≠ .unconfigured) (ht : t.life.state ≠ .unconfigured)
    (hr : t.inReset = s.inReset) (hn : t.store = s.store) : StoreOk t where
  accepted := by rw [hn, h.accepted, bne_iff_ne.2 hs, bne_iff_ne.2 ht]
  valid a ha := h.valid a (hn ▸ ha)
  reset hh := absurd (hr ▸ hh) (h.running hs)

/-- An operation that leaves the station state and every block that the invariants read. -/
theorem LineKept.of_unmoved (hl : t.life.state = s.life.state) (hr : t.inReset = s.inReset) (hb : t.bus = s.bus)
    (ha : t.assembled = s.assembled) (hs : t.slots.timing.isSome = s.slots.timing.isSome) (hc : t.slots.cycle = s.slots.cycle)
    (hn : t.store = s.store) : LineKept s t where
  bus h := h.of_port hb ha fun hs => hl ▸ h.assembled hs
  timing h := by
    obtain ⟨hpresent, hzero⟩ := h
    refine ⟨by rw [hs, hl, hpresent], fun ht => ?_⟩
    rw [hc]
    exact hzero (by simpa [ht] using hs.symm)
  store h := ⟨by rw [hn, hl]; exact h.accepted, fun a ha => h.valid a (hn ▸ ha), fun hh => hl ▸ h.reset (hr ▸ hh)⟩

/-- An operation of the bus port, on its lines and the frame assembled. -/
theorem LineKept.of_bus (s : State) (b : BusPort) (a : Option Assembled) (h : BusOk s → BusOk { s with bus := b, assembled := a }) :
    LineKept s { s with bus := b, assembled := a } :=
  ⟨h, id, fun hs => ⟨hs.accepted, hs.valid, hs.reset⟩⟩

/-- A change between configured states that transmit alike. -/
theorem LineKept.of_move (hs : s.life.state ≠ .unconfigured) (ht : t.life.state ≠ .unconfigured)
    (hl : t.life.state.transmits = s.life.state.transmits) (hr : t.inReset = s.inReset) (hb : t.bus = s.bus)
    (ha : t.assembled = s.assembled) (hslots : t.slots = s.slots) (hn : t.store = s.store) : LineKept s t where
  bus h := h.of_port hb ha fun hs => hl ▸ h.assembled hs
  timing h := by rw [TimingOk, hslots, hl]; exact h
  store h := h.of_configured hs ht hr hn

/-- A change from LISTENING to a transmitting state, with its timing (R94, R95). -/
theorem LineKept.of_entry (hs : s.life.state = .listening) (ht : t.life.state.transmits = true) (htiming : t.slots.timing.isSome = true)
    (hr : t.inReset = s.inReset) (hb : t.bus = s.bus) (ha : t.assembled = s.assembled) (hn : t.store = s.store) : LineKept s t where
  bus h := h.of_port hb ha fun _ => ht
  timing _ := ⟨htiming.trans ht.symm, fun hnone => by simp [hnone] at htiming⟩
  store h := h.of_configured (by simp [hs]) (fun hu => by simp [hu, StationState.transmits] at ht) hr hn

/-- A change of kind (a) (Table 5-6) to a configured silent state. -/
theorem LineKept.of_silentExit (h : SilentExit s t) (hs : s.life.state ≠ .unconfigured) (hq : t.life.state.transmits = false)
    (ht : t.life.state ≠ .unconfigured) : LineKept s t where
  bus hb := busOk_silent (by rw [h.bus]) (by rw [h.bus]) (by rw [h.bus]) h.assembled (by rw [h.bus]; exact hb.collisions)
  timing _ := ⟨by rw [h.slots, hq]; rfl, fun _ => by rw [h.slots]⟩
  store hn := by
    obtain ⟨-, hstore, hreset, -⟩ := h.kept
    exact hn.of_configured hs ht hreset hstore

end

/-! ## The bus port's own operations (R123 to R125, R128) -/

section
variable {s : State}

/-- The frame in receipt is no part of the port's lines. -/
theorem LineKept.setReceipt (s : State) (r : Option Receipt) : LineKept s (s.setReceipt r) :=
  .of_bus s _ _ fun h => ⟨h.driver, h.level, h.sending, h.assembled, h.collisions⟩

theorem LineKept.takeCharacter (s : State) (data : Byte) (mark : Bool) : LineKept s (s.takeCharacter data mark) :=
  .ite (fun _ => .ite (fun _ => .setReceipt s _) fun _ => .setReceipt s _) fun _ => .refl s

theorem LineKept.beginTransmission (s : State) : LineKept s s.beginTransmission := by
  unfold State.beginTransmission
  split
  · exact .refl s
  next a ha =>
    refine .ite (fun _ => .of_bus s _ _ fun h => ?_) fun _ => .refl s
    exact ⟨rfl, rfl, fun _ => by rw [ha]; rfl, h.assembled, h.collisions⟩

theorem LineKept.endTransmission (s : State) : LineKept s s.endTransmission := by
  unfold State.endTransmission
  split
  · exact .refl s
  · exact .of_bus s _ none fun _ => busOk_silent rfl rfl rfl rfl (Nat.zero_le _)

/-- The collision count stops at its limit (R125). -/
theorem LineKept.collide (s : State) : LineKept s s.collide := by
  unfold State.collide
  split
  · exact .refl s
  · exact .of_bus s _ none fun _ => busOk_silent rfl rfl rfl rfl (Nat.min_le_right ..)

/-! ## Changes of station state (Table 5-6) -/

theorem LineKept.goSilent (hs : s.life.state ≠ .unconfigured) {next : StationState} (hq : next.transmits = false)
    (hn : next ≠ .unconfigured) (isolation : Option IsolationCause) (notice : Option OwnNotice) :
    LineKept s (s.goSilent next isolation notice) := by
  refine .of_silentExit (State.goSilent_exit ..) hs ?_ ?_ <;> rwa [State.goSilent_state]

theorem LineKept.rejoin (hs : s.life.state.transmits = true) (notice : Option OwnNotice) : LineKept s (s.rejoin notice) := by
  have hj : (s.rejoin notice).life.state = .joining := (State.rejoin_exit s notice).state
  refine .of_move (fun hu => ?_) (by simp [hj]) (by rw [hj, hs]; rfl) ?_ ?_ ?_ ?_ ?_
  · simp [hu, StationState.transmits] at hs
  all_goals simp

theorem LineKept.stopListening (hs : s.life.state = .listening) (notice : Option OwnNotice) : LineKept s (s.stopListening notice) := by
  rw [State.stopListening_eq]
  exact .of_move (by simp [hs]) (by simp) (by rw [hs]; rfl) rfl rfl rfl rfl rfl

theorem LineKept.isolateOnCollisions (s : State) : LineKept s s.isolateOnCollisions := by
  refine .ite (fun h => .goSilent (fun hu => ?_) rfl (by simp) _ _) fun _ => .refl s
  simp [hu, StationState.transmits] at h

theorem LineKept.finishLeaving (s : State) : LineKept s s.finishLeaving :=
  .ite (fun ⟨hl, _⟩ => .goSilent (by simp [hl]) rfl (by simp) _ _) fun _ => .refl s

theorem LineKept.exclude (s : State) : LineKept s s.exclude :=
  .ite (fun ⟨hl, _⟩ => .rejoin (by rw [hl]; rfl) _) fun _ => .refl s

theorem LineKept.expireQuiet (s : State) : LineKept s s.expireQuiet := by
  refine .ite (fun ⟨hl, _⟩ => .of_silentExit ((s.goSilentAtBoundary_exit .listening).listening _ _) (by simp [hl]) ?_ ?_) fun _ => .refl s
  all_goals rw [State.goSilentAtBoundary_eq]; simp [StationState.transmits]

/-! ## Slot timing (R131 to R133) -/

theorem State.closeSlot_timed (s : State) (j : Station) : (s.closeSlot j).slots.timing.isSome = s.slots.timing.isSome := by
  unfold State.closeSlot
  (repeat' split) <;> simp [*]

theorem LineKept.closeSlot (s : State) (j : Station) : LineKept s (s.closeSlot j) := by
  apply LineKept.of_unmoved <;> simp [State.closeSlot_timed, State.closeSlot_cycle]

theorem State.realign_timed (s : State) (k : Station) (endTime bytes : Nat) :
    (s.realign k endTime bytes).slots.timing.isSome = s.slots.timing.isSome := by
  cases ht : s.slots.timing with
  | none => rw [State.realign_none k endTime bytes ht, ht]
  | some t => rw [State.realign_eq k endTime bytes ht]; rfl

theorem LineKept.realign (s : State) (k : Station) (endTime bytes : Nat) : LineKept s (s.realign k endTime bytes) := by
  apply LineKept.of_unmoved <;> simp [State.realign_timed, State.realign_cycle]

/-- A transmitting station adopts another timing in the place of its own (R132). -/
theorem LineKept.adoptTiming (hs : s.life.state.transmits = true) (f : Frame) (endTime bytes : Nat) :
    LineKept s (s.adoptTiming f endTime bytes) where
  bus h := h.of_port rfl rfl h.assembled
  timing _ := ⟨hs.symm, nofun⟩
  store h := ⟨h.accepted, h.valid, h.reset⟩

theorem LineKept.beginCycle {timing : Timing} (ht : s.slots.timing = some timing) : LineKept s (s.beginCycle timing) where
  bus h := h.of_port rfl rfl h.assembled
  timing h := ⟨by rw [show (s.beginCycle timing).life = s.life from rfl, ← h.1, ht]; rfl, nofun⟩
  store h := ⟨h.accepted, h.valid, h.reset⟩

/-! ## Frames handed on (R117) -/

theorem LineKept.takeMemberFrame (s : State) (f : Frame) : LineKept s (s.takeMemberFrame f) := by
  apply LineKept.of_unmoved
  case hl => simp [State.takeMemberFrame]
  all_goals simp

theorem LineKept.takeOwnNumber (s : State) (f : Frame) : LineKept s (s.takeOwnNumber f) := by
  unfold State.takeOwnNumber
  cases h : s.life.state with
  | listening => exact .stopListening h _
  | joining => exact .goSilent (by simp [h]) rfl (by simp) _ _
  | leaving => exact .goSilent (by simp [h]) rfl (by simp) _ _
  | member => exact .goSilent (by simp [h]) rfl (by simp) _ _
  | unconfigured => exact .refl s
  | idle => exact .refl s
  | isolated => exact .refl s

theorem LineKept.takeListening (h : s.life.state = .listening) (f : Frame) (endTime bytes : Nat) :
    LineKept s (s.takeListening f endTime bytes) := by
  have hjoined : LineKept s (s.startJoining f endTime bytes) := by
    rw [State.startJoining_eq]
    exact .of_entry h rfl rfl rfl rfl rfl rfl
  have restarted (t : State) : LineKept t t.restartWindow := .of_unmoved rfl rfl rfl rfl rfl rfl rfl
  have hreported : LineKept s (s.reportMismatch f) := by
    apply LineKept.of_unmoved <;> simp [State.reportMismatch_state]
  exact .ite (fun _ => .ite (fun _ => hjoined.trans (.takeMemberFrame _ f)) fun _ => hreported.trans (restarted _))
    fun _ => .ite (fun _ => restarted s) fun _ => .refl s

/-- A member's frame re-aligns the timer; all else that it moves is none of the blocks. -/
theorem LineKept.takeFromMember (s : State) (f : Frame) (endTime bytes : Nat) (order : PartOrder) :
    LineKept s (s.takeFromMember f endTime bytes order) := by
  unfold State.takeFromMember
  extract_lets k t u
  have ht : LineKept s t := (LineKept.realign s k endTime bytes).trans (by apply LineKept.of_unmoved <;> simp [t])
  have hu : LineKept s u := ht.trans (by apply LineKept.of_unmoved <;> simp [u])
  refine .ite (fun _ => .ite (fun _ => .refl s) fun _ => ?_) fun _ => .ite (fun _ => .refl s) fun _ =>
    .ite (fun _ => ht.trans ?_) fun _ => .ite (fun _ => hu.trans ?_) fun _ => hu.trans ?_
  · exact .of_unmoved rfl rfl rfl rfl rfl rfl rfl
  · apply LineKept.of_unmoved <;> simp
  · apply LineKept.of_unmoved <;> simp [State.takeEvidence]
  · apply LineKept.of_unmoved <;> simp

theorem State.foreignIsland_state (s : State) (f : Frame) : (s.foreignIsland f).life.state = s.life.state := by
  unfold State.foreignIsland
  dsimp only
  split <;> simp

theorem LineKept.islandRule (hs : s.life.state.transmits = true) (f : Frame) (endTime bytes : Nat) :
    LineKept s (s.islandRule f endTime bytes) := by
  refine .ite (fun _ => ?_) fun _ => .ite (fun _ => ?_) fun _ => .refl s
  · apply LineKept.of_unmoved <;> simp [State.foreignIsland_state]
  · have hadopted : (s.adoptTiming f endTime bytes).life.state.transmits = true := hs
    exact ((LineKept.adoptTiming hs f endTime bytes).trans (.rejoin hadopted none)).trans (.takeMemberFrame _ f)

theorem LineKept.takeFromOutside (hs : s.life.state.transmits = true) (f : Frame) (endTime bytes : Nat) :
    LineKept s (s.takeFromOutside f endTime bytes) := by
  have heard (t : State) (b : Bool) : LineKept t (t.hear f b) := by apply LineKept.of_unmoved <;> simp
  have outside (t : State) (state : EntryState) : LineKept t (t.setOutside f.station state) := .of_unmoved rfl rfl rfl rfl rfl rfl rfl
  unfold State.takeFromOutside
  extract_lets k t u
  have ht : LineKept s t := heard s _
  have hu : LineKept s u := .ite (fun _ => ht) fun _ => ht.trans (outside t .foreign)
  have hlife : u.life = s.life := by dsimp only [u]; split <;> simp [t, State.setOutside]
  refine .ite (fun _ => .ite (fun _ => ht) fun _ => ht.trans ?_) fun _ => .ite (fun _ => .ite (fun _ => ?_) fun _ => .refl s)
    fun _ => hu.trans (.islandRule (by rw [hlife]; exact hs) f endTime bytes)
  · exact .of_unmoved rfl rfl rfl rfl rfl rfl rfl
  · refine (LineKept.realign s k endTime bytes).trans ?_
    apply LineKept.of_unmoved <;> simp

theorem LineKept.handOn (s : State) (f : Frame) (endTime bytes : Nat) (order : PartOrder) :
    LineKept s (s.handOn f endTime bytes order) := by
  unfold State.handOn
  refine .ite (fun _ => .takeOwnNumber s f) fun _ => ?_
  cases h : s.life.state with
  | unconfigured => exact .refl s
  | idle => exact .refl s
  | isolated => exact .refl s
  | listening => exact .takeListening h f endTime bytes
  | joining => exact .ite (fun _ => (LineKept.realign s _ _ _).trans (.takeMemberFrame _ f)) fun _ => .refl s
  | member => exact .ite (fun _ => .takeFromMember s f _ _ order) fun _ => .takeFromOutside (by rw [h]; rfl) f _ _
  | leaving => exact .ite (fun _ => .takeFromMember s f _ _ order) fun _ => .refl s

theorem LineKept.receiveWhole (s : State) (order : PartOrder) : LineKept s (s.receiveWhole order) := by
  have taken : LineKept s (s.setReceipt none) := .setReceipt s none
  unfold State.receiveWhole
  split
  · exact .refl s
  · split
    · exact .refl s
    · refine .ite (fun _ => ?_) fun _ => taken
      split
      · exact taken
      · exact taken.trans (.handOn _ _ _ _ order)

/-! ## The boundary and the own-slot start -/

/-- A boundary leaves the station state, but for a JOINING station that becomes MEMBER (R97). -/
theorem State.boundaryWork_state (s : State) (exclusionFirst : Bool) : (s.boundaryWork exclusionFirst).life.state = s.life.state ∨
    s.life.state = .joining ∧ (s.boundaryWork exclusionFirst).life.state = .member := by
  unfold State.boundaryWork
  cases h : s.life.state with
  | member =>
    left
    simp only [State.memberBoundary]
    split <;> simp [State.pruneIslands, LifeCycle.countExclusion_state, h]
  | joining =>
    dsimp only
    split
    · right; exact ⟨rfl, by simp [State.becomeMember_eq, State.adopted]⟩
    · left; exact h
  | leaving => left; simpa [State.markOwnClaims] using h
  | unconfigured => exact .inl h
  | idle => exact .inl h
  | listening => exact .inl h
  | isolated => exact .inl h

theorem LineKept.boundaryWork (s : State) (exclusionFirst : Bool) : LineKept s (s.boundaryWork exclusionFirst) := by
  rcases s.boundaryWork_state exclusionFirst with hl | ⟨hj, hm⟩
  · apply LineKept.of_unmoved hl <;> simp
  · apply LineKept.of_move (by simp [hj]) (by simp [hm]) (by rw [hj, hm]; rfl) <;> simp

theorem LineKept.takeBoundary (s : State) (exclusionFirst : Bool) : LineKept s (s.takeBoundary exclusionFirst) := by
  unfold State.takeBoundary
  split
  · exact .refl s
  next ht => exact (LineKept.beginCycle ht).trans (.boundaryWork _ exclusionFirst)

/-- The own-slot start of a transmitting station assembles its frame (R113). -/
theorem LineKept.slotStartWork (hs : s.life.state.transmits = true) : LineKept s s.slotStartWork where
  bus h := ⟨by simpa using h.driver, by simpa using h.level, fun _ => rfl, fun _ => by simpa using hs, by simpa using h.collisions⟩
  timing h := by simpa [TimingOk] using h
  store h := ⟨by simpa using h.accepted, by simpa using h.valid, by simpa using h.reset⟩

theorem LineKept.takeSlotStart (s : State) : LineKept s s.takeSlotStart := by
  unfold State.takeSlotStart
  split
  · exact .refl s
  next timing ht =>
    have hraised : LineKept s (s.ownSlotRaised timing) := .of_unmoved rfl rfl rfl rfl (by rw [ht]; rfl) rfl rfl
    exact .ite (fun ⟨hs, _⟩ => hraised.trans (.slotStartWork hs)) fun _ => .refl s

theorem LineKept.expireWindow (s : State) : LineKept s s.expireWindow := by
  refine .ite (fun hl => ?_) fun _ => .refl s
  have hfound : LineKept s s.foundLine := by
    rw [State.foundLine_eq]
    exact .of_entry hl rfl rfl rfl rfl rfl rfl
  exact hfound.trans (.slotStartWork rfl)

/-! ## Requests and resets -/

/-- Acceptance keeps the record, every field of it in its range, with its digest (R169, R170, R171). -/
theorem LineKept.configure (hr : s.inReset = false) (r : ConfigRecord) : LineKept s (s.configure r).1 := by
  by_cases hu : s.life.state = .unconfigured
  · cases hbad : firstBadField r with
    | some index => rw [State.configure_bad hu hbad]; exact .refl s
    | none =>
      have hfields := (firstBadField_none_iff r).1 hbad
      rw [State.configure_accepted hu hfields, State.configured_eq]
      exact {
        bus := fun h => h.of_port rfl rfl fun ha => by simpa [hu, StationState.transmits] using h.assembled ha
        timing := fun h => ⟨h.1.trans (by rw [hu]; rfl), h.2⟩
        store := fun _ => ⟨rfl, fun a ha => by cases ha; exact ⟨hfields, rfl⟩, fun hh => absurd (hr.symm.trans hh) nofun⟩ }
  · rw [State.configure_refused r hu]
    exact .refl s

/-- The change to LISTENING zeroes the collision count (R92, R125). -/
theorem LineKept.startListening (hs : s.life.state = .idle ∨ s.life.state = .isolated) : LineKept s s.startListening := by
  have hzeroed : LineKept s { s with bus := { s.bus with collisions := 0 } } :=
    .of_bus s _ _ fun h => ⟨h.driver, h.level, h.sending, h.assembled, Nat.zero_le _⟩
  have hu : s.life.state ≠ .unconfigured := by rcases hs with hs | hs <;> simp [hs]
  have hq : s.life.state.transmits = false := by rcases hs with hs | hs <;> rw [hs] <;> rfl
  exact hzeroed.trans (.of_move hu nofun hq.symm rfl rfl rfl rfl rfl)

theorem LineKept.join (s : State) : LineKept s s.join.1 := by
  unfold State.join
  split
  next hs => exact .startListening hs
  · exact .refl s

theorem LineKept.leave (s : State) : LineKept s s.leave.1 := by
  unfold State.leave
  cases h : s.life.state with
  | listening => exact .stopListening h none
  | joining => exact .goSilent (by simp [h]) rfl (by simp) _ _
  | member =>
    have hl : s.startLeaving.life.state = .leaving := by simp [State.startLeaving, LifeCycle.clearEvidence]
    dsimp only
    split
    · apply LineKept.of_move (by simp [h]) (by simp [hl]) (by rw [h, hl]; rfl) <;> simp
    · exact .refl s
  | unconfigured => exact .refl s
  | idle => exact .refl s
  | leaving => exact .refl s
  | isolated => exact .refl s

theorem LineKept.enterReset (s : State) (cause : RestartCause) : LineKept s (s.enterReset cause) where
  bus _ := busOk_silent rfl rfl rfl rfl (Nat.zero_le _)
  timing _ := ⟨rfl, fun _ => rfl⟩
  store _ := ⟨rfl, nofun, fun _ => rfl⟩

theorem LineKept.completeReset (s : State) (straps : BitVec 4) : LineKept s (s.completeReset straps) where
  bus h := h.of_port rfl rfl h.assembled
  timing := id
  store h := ⟨h.accepted, h.valid, nofun⟩

end

/-! ## Every step -/

/-- Every operation keeps each of the three invariants on its own, so whatever came before it. -/
theorem LineKept.kept (s₀ : State) : Kept (LineKept s₀) where
  port _ _ h := h.trans (.of_unmoved rfl rfl rfl rfl rfl rfl rfl)
  reset s cause h := h.trans (.enterReset s cause)
  complete s straps _ h := h.trans (.completeReset s straps)
  recogniseInput _ _ _ _ h := h.trans (by apply LineKept.of_unmoved <;> simp)
  beginTransmission s _ h := h.trans (.beginTransmission s)
  collide s _ h := h.trans (.collide s)
  isolateOnCollisions s _ h := h.trans (.isolateOnCollisions s)
  endTransmission s _ h := h.trans (.endTransmission s)
  receiveWhole s order _ h := h.trans (.receiveWhole s order)
  abandonOnGap s _ h := h.trans (.setReceipt s _)
  abandon s _ _ h := h.trans (.setReceipt s _)
  takeCharacter s data mark _ h := h.trans (.takeCharacter s data mark)
  closeSlot s k _ h := h.trans (.closeSlot s k)
  takeBoundary s exclusionFirst _ h := h.trans (.takeBoundary s exclusionFirst)
  takeSlotStart s _ h := h.trans (.takeSlotStart s)
  expireWindow s _ h := h.trans (.expireWindow s)
  missedLimitEvent _ _ _ h := h.trans (by apply LineKept.of_unmoved <;> simp)
  finishLeaving s _ h := h.trans (.finishLeaving s)
  removeWithdrawn _ _ h := h.trans (by apply LineKept.of_unmoved <;> simp)
  takeLag _ _ h := h.trans (.of_unmoved rfl rfl rfl rfl rfl rfl rfl)
  takeSilent _ _ h := h.trans (by apply LineKept.of_unmoved <;> simp)
  expireOffer _ _ h := h.trans (by apply LineKept.of_unmoved <;> simp)
  endGrace _ _ h := h.trans (by apply LineKept.of_unmoved <;> simp)
  exclude s _ h := h.trans (.exclude s)
  expireQuiet s _ h := h.trans (.expireQuiet s)
  configure _ record hr h := h.trans (.configure hr record)
  join s _ h := h.trans (.join s)
  leave s _ h := h.trans (.leave s)
  takeOffer _ _ _ _ h := h.trans (by apply LineKept.of_unmoved <;> simp)
  withdrawOffer _ _ h := h.trans (by apply LineKept.of_unmoved <;> simp)
  raiseStop _ _ h := h.trans (by apply LineKept.of_unmoved <;> simp)
  clearStop _ _ h := h.trans (by apply LineKept.of_unmoved <;> simp)
  setManualHold _ _ _ h := h.trans (.of_unmoved rfl rfl rfl rfl rfl rfl rfl)
  report _ _ _ _ h := h.trans (by apply LineKept.of_unmoved <;> simp)
  answerStatus _ _ h := h.trans (.of_unmoved rfl rfl rfl rfl rfl rfl rfl)
  answerNotice _ _ h := h.trans (by apply LineKept.of_unmoved <;> simp)

theorem LineKept.passMicrosecond (s : State) : LineKept s s.passMicrosecond :=
  .of_unmoved rfl rfl rfl rfl Option.isSome_map rfl rfl

theorem LineKept.step {s t : State} (h : Machine.step s = .next t) : LineKept s t :=
  (LineKept.kept s).step (fun _ _ h => h.trans (.of_unmoved rfl rfl rfl rfl rfl rfl rfl)) (fun s h => h.trans (.passMicrosecond s)) (.refl s) h

/-- Settles O56, by the induction over a step of what every operation keeps. -/
theorem stepKeepsTheTimingAndTheStore : Obligations.StepKeepsTheTimingAndTheStore :=
  ⟨fun _ _ hs h => (LineKept.step h).timing hs, fun _ _ hs h => (LineKept.step h).store hs⟩

/-- Settles O55, by the inductions over a step for the notices and for the bus port. -/
theorem stepKeepsTheNoticeQueueAndTheBusPort : Obligations.StepKeepsTheNoticeQueueAndTheBusPort :=
  ⟨fun _ _ hs h => NoticesOk.step hs h, fun _ _ hs h => (LineKept.step h).bus hs⟩

end Sys2Proof.Machine
end

section
/-! PROOFS. The section follower (Chapter 8): REPORT with the drive check (R136, R147, R148, R158), and the work at a publication, step by step
(R138 to R146). -/

namespace Sys2Proof.Machine
open Sys2Proof

/-! ## REPORT (R136, R147, R148, R158) -/

section
variable (s : State) (p : Position) (ready : Bool)

/-- The follower once a report has been taken: the report held, and the origin latched on a running MEMBER line (R136). -/
def State.followerReported : Follower :=
  let held := { s.follower with held := some (p, ready) }
  if s.life.state = .member ∧ s.follower.origin = none ∧ s.reference.lastPublished ≠ .stopped
  then { held with origin := some p, record := { held.record with originLatched := true } } else held

/-- The drive check on the record as it stands (R147). -/
def State.driveChecked : State :=
  if ready = false ∧ s.life.state = .member ∧ s.reference.record.ramp ≠ .stopped then s.raise .driveFault else s

/-- A raise reads neither the follower nor the port. -/
theorem State.raise_follower_port (f : Follower) (q : LocalPort) (cause : StopCause) :
    ({ s with follower := f, port := q } : State).raise cause = { s.raise cause with follower := f, port := q } := by
  cases h : s.claims.stop with
  | none =>
    exact (State.raise_clear (s := { s with follower := f, port := q }) cause h).trans (by rw [State.raise_clear cause h]; rfl)
  | some k =>
    refine (State.raise_set (s := { s with follower := f, port := q }) cause h).trans ?_
    rw [State.raise_set cause h]
    split <;> rfl

theorem State.driveChecked_follower_port (f : Follower) (q : LocalPort) :
    ({ s with follower := f, port := q } : State).driveChecked ready = { s.driveChecked ready with follower := f, port := q } := by
  unfold State.driveChecked
  dsimp only
  split
  · exact s.raise_follower_port f q .driveFault
  · rfl

/-- The drive check changes the claims and the notices alone. -/
theorem State.driveChecked_eq : s.driveChecked ready =
    { s with claims := (s.driveChecked ready).claims, notices := (s.driveChecked ready).notices } := by
  unfold State.driveChecked
  split
  · rw [s.raise_eq]
  · rfl

/-- A REPORT taken is the follower's and the port's part, and the drive check. -/
theorem State.takeReport_eq : s.takeReport p ready =
    { s.driveChecked ready with follower := s.followerReported p ready, port := { s.port with missCount := 0 } } := by
  rw [← State.driveChecked_follower_port]
  simp only [State.takeReport, RampState.running_iff]
  rfl

end

/-- REPORT where the port takes it: the body is the setpoint record once the report has been taken. -/
theorem exec_report_taken {s : State} (p : Position) (flags : Byte) (ht : s.takesTransaction = true) :
    let f := s.followerReported p (flags.getLsbD 0)
    exec (.report p flags) s = .next { s.driveChecked (flags.getLsbD 0) with
      follower := f, port := { (s.answered 0x30 .ok (setpointBody f.record)).port with missCount := 0 } } := by
  intro f
  rw [exec_report, State.takeRequest_taken _ _ ht, State.answerReport, State.takeReport_eq,
    show s.deselected.driveChecked _ = _ from s.driveChecked_follower_port _ s.follower s.deselected.port, s.driveChecked_eq]
  rfl

/-- Settles O27, by the equation of a REPORT taken and the branches of the latch and of the drive check. -/
theorem reportIsHeldAndAnswered : Obligations.ReportIsHeldAndAnswered := by
  intro p flags s ht ready latches held latched fault
  refine ⟨_, exec_report_taken p flags ht, fun h => if_pos h, fun h => if_neg h, rfl, fun h => ?_, fun h => ?_, ?_⟩
  · rw [State.driveChecked, if_pos h]
    exact ⟨rfl, rfl⟩
  · rw [State.driveChecked, if_neg h]
    exact ⟨rfl, rfl⟩
  · rw [s.driveChecked_eq]

/-! ## The loop update (R141) -/

section
variable {cfg : ConfigRecord} {f : Follower}

theorem tryLoopUpdate_none (h : f.origin = none ∨ f.held = none) : tryLoopUpdate cfg f = (f, false) := by
  unfold tryLoopUpdate
  rcases h with h | h
  · rw [h]
  · rw [h]; cases f.origin <;> rfl

theorem tryLoopUpdate_some {origin p : Position} {ready : Bool} (ho : f.origin = some origin) (hp : f.held = some (p, ready)) :
    tryLoopUpdate cfg f = (loopUpdate cfg p origin f, true) := by
  unfold tryLoopUpdate
  rw [ho, hp]

end

/-! ## Feed-forward, loop update and setpoint in a row (R139, R141, R142) -/

/-- What a publication that is not STOPPED computes before the lag detector. -/
def setpointWork (cfg : ConfigRecord) (s : Speed) (f : Follower) : Follower :=
  let g := (tryLoopUpdate cfg (feedForward cfg.draw s f)).1
  { g with setpoint := setpointOf cfg g }

section
variable (cfg : ConfigRecord) (s : Speed) (f : Follower)

/-- Without an origin or a report the loop keeps its values. -/
theorem setpointWork_open {f : Follower} (h : f.origin = none ∨ f.held = none) : setpointWork cfg s f =
    { feedForward cfg.draw s f with setpoint := setpointOf cfg (feedForward cfg.draw s f) } := by
  rw [setpointWork, tryLoopUpdate_none (f := feedForward cfg.draw s f) h]

theorem setpointWork_closed {f : Follower} {origin p : Position} {ready : Bool} (ho : f.origin = some origin)
    (hp : f.held = some (p, ready)) : setpointWork cfg s f =
      let g := loopUpdate cfg p origin (feedForward cfg.draw s f)
      { g with setpoint := setpointOf cfg g } := by
  rw [setpointWork, tryLoopUpdate_some (f := feedForward cfg.draw s f) ho hp]

/-- The feed-forward stands whether or not a loop update follows it, and the origin and the lag detector are as they were. -/
theorem setpointWork_kept : let g := setpointWork cfg s f; let q := s.toNat * cfg.draw.toNat + f.rem
    g.f = q / 16384 ∧ g.rem = q % 16384 ∧ g.rs = f.rs + BitVec.ofNat 32 (q / 16384) ∧ g.origin = f.origin ∧
      g.lagHold = f.lagHold ∧ g.overCount = f.overCount ∧ g.underCount = f.underCount := by
  by_cases h : f.origin = none ∨ f.held = none
  · rw [setpointWork_open cfg s h]
    exact ⟨rfl, rfl, rfl, rfl, rfl, rfl, rfl⟩
  · obtain ⟨ho, hh⟩ := not_or.1 h
    obtain ⟨origin, ho⟩ := Option.ne_none_iff_exists'.1 ho
    obtain ⟨⟨p, ready⟩, hp⟩ := Option.ne_none_iff_exists'.1 hh
    rw [setpointWork_closed cfg s ho hp]
    exact ⟨rfl, rfl, rfl, rfl, rfl, rfl, rfl⟩

/-- The setpoint is never below 0, so the clamped sum is a whole number of pulses (R142). -/
theorem setpointWork_setpoint : let g := setpointWork cfg s f
    (g.setpoint : Int) = max 0 (min (cfg.ssMax.toNat : Int) (g.f + g.trim)) :=
  Int.toNat_of_nonneg (Int.le_max_left 0 _)

end

/-! ## The work by the published ramp state (Table 8-2) -/

theorem RampState.free_iff (x : RampState) : x.free = true ↔ x ≠ .stopped ∧ x ≠ .stopping := by cases x <;> decide

section
variable {cfg : ConfigRecord} {ramp : RampState} {s : Speed} {f : Follower}

theorem followerCompute_stopped : followerCompute cfg .stopped s f = lagClear (stoppedValues f) := rfl

theorem followerCompute_stopping : followerCompute cfg .stopping s f = lagClear (setpointWork cfg s f) := rfl

/-- On a line that runs freely the lag detector counts exactly where a loop update was made. -/
theorem followerCompute_free (h : ramp.free = true) : followerCompute cfg ramp s f =
    if (tryLoopUpdate cfg (feedForward cfg.draw s f)).2 then lagCount cfg (setpointWork cfg s f) else setpointWork cfg s f := by
  cases ramp with
  | ramping | steady | held => rfl
  | stopped | stopping => cases h

theorem followerCompute_uncounted (h : ramp.free = true) (hf : f.origin = none ∨ f.held = none) :
    followerCompute cfg ramp s f = setpointWork cfg s f := by
  rw [followerCompute_free h, tryLoopUpdate_none (f := feedForward cfg.draw s f) hf, if_neg Bool.false_ne_true]

theorem followerCompute_counted (h : ramp.free = true) (ho : f.origin ≠ none) (hh : f.held ≠ none) :
    followerCompute cfg ramp s f = lagCount cfg (setpointWork cfg s f) := by
  obtain ⟨origin, ho⟩ := Option.ne_none_iff_exists'.1 ho
  obtain ⟨⟨p, ready⟩, hp⟩ := Option.ne_none_iff_exists'.1 hh
  rw [followerCompute_free h, tryLoopUpdate_some (f := feedForward cfg.draw s f) ho hp, if_pos rfl]

/-- A count on a loop update changes the two counters alone. -/
theorem lagCount_eq (cfg : ConfigRecord) (f : Follower) : lagCount cfg f =
    { f with overCount := (lagCount cfg f).overCount, underCount := (lagCount cfg f).underCount } := by
  unfold lagCount
  split <;> rfl

/-- The count toward the lag hold (R145, Table 8-4). -/
theorem lagCount_clear (h : f.lagHold = false) : lagCount cfg f =
    { f with overCount := if cfg.lagLimit.toNat < f.ef.natAbs then min (f.overCount + 1) cfg.lagCount.toNat else 0 } :=
  if_neg (by simp [h])

/-- The count toward its release. -/
theorem lagCount_set (h : f.lagHold = true) : lagCount cfg f =
    { f with underCount := if f.ef.natAbs < cfg.lagRelease.toNat then min (f.underCount + 1) cfg.lagCount.toNat else 0 } :=
  if_pos h

/-- Whatever the running ramp state, only the lag detector acts after the setpoint. -/
theorem followerCompute_running (h : ramp ≠ .stopped) : ∃ lagHold overCount underCount, followerCompute cfg ramp s f =
    { setpointWork cfg s f with lagHold := lagHold, overCount := overCount, underCount := underCount } := by
  by_cases hs : ramp = .stopping
  · exact ⟨false, 0, 0, by rw [hs]; rfl⟩
  · rw [followerCompute_free ((RampState.free_iff _).2 ⟨h, hs⟩)]
    split
    · exact ⟨_, _, _, lagCount_eq cfg _⟩
    · exact ⟨_, _, _, rfl⟩

theorem followerCompute_origin : (followerCompute cfg ramp s f).origin = f.origin := by
  by_cases h : ramp = .stopped
  · rw [h]; rfl
  · obtain ⟨lagHold, overCount, underCount, hg⟩ := followerCompute_running (cfg := cfg) (s := s) (f := f) h
    obtain ⟨_, _, _, horigin, _⟩ := setpointWork_kept cfg s f
    rw [hg]
    exact horigin

end

/-! ## The whole publication (R138) -/

section
variable (cfg : ConfigRecord) (r : LineRecord) (c : Cycle) (f : Follower)

/-- A publication with START is any other one after the loop reset (R140). -/
theorem followerPublish_started : followerPublish cfg r c true f = followerPublish cfg r c false (loopReset f) := rfl

/-- Without START: the held report is used up, and the setpoint record is of what was computed (R138, R146). -/
theorem followerPublish_eq : followerPublish cfg r c false f =
    { followerCompute cfg r.ramp r.s f with
      held := none, record := setpointRecord r.ramp r.s c (followerCompute cfg r.ramp r.s f) } := rfl

/-- What a running line's publication computes before the lag detector (R139, R141, R142). -/
theorem followerCompute_loop (hr : r.ramp ≠ .stopped) :
    let g := followerCompute cfg r.ramp r.s f
    let q := r.s.toNat * cfg.draw.toNat + f.rem
    g.f = q / 16384 ∧ g.rem = q % 16384 ∧ g.rs = f.rs + BitVec.ofNat 32 (q / 16384) ∧
      (g.setpoint : Int) = max 0 (min (cfg.ssMax.toNat : Int) (g.f + g.trim)) ∧
      (f.origin = none ∨ f.held = none → g.e = f.e ∧ g.ef = f.ef ∧ g.integral = f.integral ∧ g.trim = f.trim) ∧
      ∀ origin p ready, f.origin = some origin → f.held = some (p, ready) →
        g.e = max (-8388607) (min 8388607 (g.rs - (p - origin)).toInt) ∧
        g.ef = f.ef + (cfg.kf.toNat * (g.e - f.ef)) / 32768 ∧
        g.integral = max (-(cfg.imax.toNat : Int)) (min cfg.imax.toNat (f.integral + (cfg.ki.toNat * g.e) / 256)) ∧
        g.trim = max (-(cfg.trimMax.toNat : Int)) (min cfg.trimMax.toNat ((cfg.kp.toNat * g.e) / 256 + g.integral)) := by
  intro g q
  obtain ⟨lagHold, overCount, underCount, hg⟩ := followerCompute_running (cfg := cfg) (s := r.s) (f := f) hr
  obtain ⟨hf, hrem, hrs, _⟩ := setpointWork_kept cfg r.s f
  simp only [g, hg]
  refine ⟨hf, hrem, hrs, setpointWork_setpoint cfg r.s f, fun h => ?_, fun origin p ready ho hp => ?_⟩
  · rw [setpointWork_open cfg r.s h]
    exact ⟨rfl, rfl, rfl, rfl⟩
  · rw [setpointWork_closed cfg r.s ho hp]
    exact ⟨rfl, rfl, rfl, rfl⟩

/-- STOPPED and STOPPING clear the lag hold and both counts (R145). -/
theorem followerCompute_lagCleared (hr : r.ramp = .stopped ∨ r.ramp = .stopping) : let g := followerCompute cfg r.ramp r.s f
    g.lagHold = false ∧ g.overCount = 0 ∧ g.underCount = 0 := by
  rcases hr with hr | hr <;> rw [hr] <;> exact ⟨rfl, rfl, rfl⟩

/-- On a line that runs freely the lag hold waits for LAG_HOLD, and a loop update moves one count (Table 8-4, log entry 8). -/
theorem followerCompute_lag (hr : r.ramp.free = true) : let g := followerCompute cfg r.ramp r.s f
    g.lagHold = f.lagHold ∧
      (f.origin = none ∨ f.held = none → g.overCount = f.overCount ∧ g.underCount = f.underCount) ∧
      (f.origin ≠ none → f.held ≠ none →
        (f.lagHold = false → g.underCount = f.underCount ∧
          g.overCount = if cfg.lagLimit.toNat < g.ef.natAbs then min (f.overCount + 1) cfg.lagCount.toNat else 0) ∧
        (f.lagHold = true → g.overCount = f.overCount ∧
          g.underCount = if g.ef.natAbs < cfg.lagRelease.toNat then min (f.underCount + 1) cfg.lagCount.toNat else 0)) := by
  intro g
  obtain ⟨_, _, _, _, hhold, hover, hunder⟩ := setpointWork_kept cfg r.s f
  refine ⟨?_, fun h => ?_, fun ho hh => ?_⟩
  · simp only [g, followerCompute_free hr]
    split
    · rw [lagCount_eq]; exact hhold
    · exact hhold
  · simp only [g, followerCompute_uncounted hr h]
    exact ⟨hover, hunder⟩
  · simp only [g, followerCompute_counted hr ho hh]
    refine ⟨fun h => ?_, fun h => ?_⟩
    · rw [lagCount_clear (hhold.trans h)]
      exact ⟨hunder, by rw [← hover]⟩
    · rw [lagCount_set (hhold.trans h)]
      exact ⟨hover, by rw [← hunder]⟩

/-- A start from standstill: after the loop reset there is no origin, so the setpoint is the feed-forward of speed 0 (R139, R140). -/
theorem followerPublish_started_standstill (hs : r.s = 0) (hr : r.ramp ≠ .stopped) : let g := followerPublish cfg r c true f
    g.f = 0 ∧ g.rs = 0 ∧ g.trim = 0 ∧ g.setpoint = 0 ∧ g.origin = none ∧ g.lagHold = false := by
  obtain ⟨hf, _, hrs, hsetpoint, hkept, _⟩ := followerCompute_loop cfg r (loopReset f) hr
  obtain ⟨_, _, _, htrim⟩ := hkept (.inl rfl)
  have hq : r.s.toNat * cfg.draw.toNat + (loopReset f).rem = 0 := by simp [hs, loopReset]
  rw [hq] at hf hrs
  replace htrim : (followerCompute cfg r.ramp r.s (loopReset f)).trim = 0 := htrim
  refine ⟨hf, hrs, htrim, ?_, followerCompute_origin, ?_⟩
  · rw [hf, htrim] at hsetpoint
    show (followerCompute cfg r.ramp r.s (loopReset f)).setpoint = 0
    omega
  · by_cases hstop : r.ramp = .stopping
    · exact (followerCompute_lagCleared cfg r (loopReset f) (.inr hstop)).1
    · exact (followerCompute_lag cfg r (loopReset f) ((RampState.free_iff _).2 ⟨hr, hstop⟩)).1

end

/-- Settles O28, by the loop reset and the work of a publication step by step. -/
theorem followerComputesTheSetpoint : Obligations.FollowerComputesTheSetpoint := by
  refine ⟨fun cfg r c f => ⟨followerPublish_started cfg r c f, followerPublish_started_standstill cfg r c f⟩, fun cfg r c f => ?_⟩
  intro g q
  refine ⟨rfl, followerCompute_origin, ?_, fun h => ?_, followerCompute_loop cfg r f, followerCompute_lagCleared cfg r f,
    followerCompute_lag cfg r f⟩
  · rw [← RampState.running_eq]
    rfl
  · simp only [g, followerPublish_eq, h, followerCompute_stopped]
    exact ⟨rfl, rfl, rfl, rfl, rfl, rfl, rfl, rfl⟩

end Sys2Proof.Machine
end

section
/-! PROOFS. The local port's shift register (R149, R150): a run of SCK periods as one change of the transaction in progress, and what SDO and the
rise of CS_N then read of it. -/

namespace Sys2Proof.Machine
open Sys2Proof

/-! ## Bits of bytes -/

theorem bitsOf_length (bytes : List Byte) : (bitsOf bytes).length = 8 * bytes.length := by
  induction bytes with
  | nil => rfl
  | cons b bytes ih =>
    have head : (bitsOf (b :: bytes)).length = 8 + (bitsOf bytes).length := List.length_append
    rw [head, ih, List.length_cons]
    omega

/-! ## A run of SCK periods -/

/-- The transaction with these bits shifted in and as many shifted out. -/
def Transaction.shifted (x : Transaction) (bits : List Bool) : Transaction :=
  { x with shiftedIn := x.shiftedIn ++ bits, shiftedOut := x.shiftedOut + bits.length }

theorem Transaction.shifted_nil : (Transaction.shifted · []) = id := by
  funext x; simp [Transaction.shifted]

theorem Transaction.shifted_shifted (x : Transaction) (first more : List Bool) :
    (x.shifted first).shifted more = x.shifted (first ++ more) := by
  simp [Transaction.shifted, Nat.add_assoc]

theorem State.shift_shift (s : State) (f g : Transaction → Transaction) : (s.shift f).shift g = s.shift (g ∘ f) := by
  simp [State.shift, Option.map_map]

/-- With CS_N high an edge of SCK changes nothing. -/
theorem State.shift_idle {s : State} (change : Transaction → Transaction) (h : s.port.transaction = none) : s.shift change = s := by
  rw [State.shift, h, Option.map_none, ← h]

theorem State.shift_id (s : State) : s.shift id = s := by simp [State.shift]

theorem State.sckPeriod_eq (s : State) (sdi : Bool) : s.sckPeriod sdi = s.shift (Transaction.shifted · [sdi]) := State.shift_shift ..

/-- Periods in a row shift their bits in order. -/
theorem State.foldl_sckPeriod (bits : List Bool) (s : State) : bits.foldl State.sckPeriod s = s.shift (Transaction.shifted · bits) := by
  induction bits generalizing s with
  | nil => rw [Transaction.shifted_nil, State.shift_id]; rfl
  | cons bit bits ih =>
    rw [List.foldl_cons, ih, State.sckPeriod_eq, State.shift_shift]
    exact congrArg s.shift (funext fun x => x.shifted_shifted [bit] bits)

/-! ## SDO and the rise of CS_N -/

theorem State.sdo_lost {s : State} (h : s.port.lost = true) : s.sdo = some false := if_pos h

theorem State.sdo_kept {s : State} (h : s.port.lost = false) :
    s.sdo = s.port.transaction.map fun x => (bitsOf x.envelope).getD x.shiftedOut false := by simp [State.sdo, h]

/-- A sampled bit moves nothing on SDO: a rising edge leaves the count of the bits shifted out. -/
theorem State.sdo_sckRise (s : State) (sdi : Bool) : (s.sckRise sdi).sdo = s.sdo := by
  cases h : s.port.lost with
  | true => rw [State.sdo_lost h, State.sdo_lost (s := s.sckRise sdi) h]
  | false =>
    rw [State.sdo_kept h, State.sdo_kept (s := s.sckRise sdi) h, State.sckRise, State.shift_transaction, Option.map_map]
    rfl

theorem State.riseCommand_lost {s : State} (h : s.port.lost = true) : s.riseCommand = .transactionDiscarded := by
  unfold State.riseCommand
  split
  · rfl
  · simp [h]

theorem State.riseCommand_discarded {s : State} {x : Transaction} (hx : s.port.transaction = some x) (h : x.discarded = true) :
    s.riseCommand = .transactionDiscarded := by simp [State.riseCommand, hx, h]

theorem State.riseCommand_read {s : State} {x : Transaction} (hx : s.port.transaction = some x) (hl : s.port.lost = false)
    (h : x.discarded = false) : s.riseCommand = transactionCommand (bytesOf x.shiftedIn) := by simp [State.riseCommand, hx, hl, h]

/-- Settles O6, from a run of periods as one change of the transaction in progress. -/
theorem transactionsShiftBits : Obligations.TransactionsShiftBits := by
  refine ⟨fun s x bytes rest hx hin hout hl hrest => ?_, fun s sdi => ⟨fun h => ?_, fun h hl => ?_, fun h => ?_, s.sdo_sckRise sdi⟩⟩
  · intro t
    have ht : t = s.shift (Transaction.shifted · (bitsOf bytes ++ rest)) := State.foldl_sckPeriod _ s
    have htx : t.port.transaction = some { x with
        shiftedIn := bitsOf bytes ++ rest, shiftedOut := 8 * bytes.length + rest.length } := by
      simp [ht, hx, Transaction.shifted, hin, hout, bitsOf_length]
    have htl : t.port.lost = false := by rw [ht, State.shift_lost, hl]
    refine ⟨ht ▸ s.shift_frame _, ?_, fun h => ?_, fun h => State.riseCommand_discarded htx h⟩
    · rw [State.sdo_kept htl, htx]; rfl
    · rw [State.riseCommand_read htx htl h, bytesOf_bitsOf bytes rest hrest]
  · exact ⟨State.sdo_lost h, State.riseCommand_lost h⟩
  · rw [State.sdo_kept hl, h, Option.map_none]
  · exact ⟨State.shift_idle _ h, State.shift_idle _ h⟩

end Sys2Proof.Machine
end

section
/-! PROOFS. Requests read back from their envelopes (R150, R152, Tables 12-3 and 12-4). -/

namespace Sys2Proof.Machine
open Sys2Proof

/-! ## Kinds and bodies (Table 12-4) -/

/-- The bytes of a word spell it. -/
theorem wordAt_wordBytes (w : BitVec 32) (rest : List Byte) : wordAt (wordBytes w ++ rest) 0 = w := by
  simp [wordAt, wordBytes, halfAt, halfBytes, byteAt, halfBytes_append, wordHalves_append, -BitVec.extractLsb'_extractLsb'_of_le]

/-- No kind has a body longer than the largest (R152). -/
theorem requestBody_le_maxBody {kind : Byte} {n : Nat} (h : requestBody kind = some n) : n ≤ Config.maxBody := by
  unfold requestBody at h
  repeat' split at h
  all_goals cases h
  all_goals decide

/-- A kind with the body that carries a request's operands: the body has the kind's length, and the request is read from the two. -/
theorem requestOf_requestParts {i : Instr} {kind : Byte} {body : List Byte} (h : requestParts i = some (kind, body)) :
    requestBody kind = some body.length ∧ requestOf kind body = i := by
  cases i <;> cases h
  case configure record => exact ⟨rfl, congrArg Instr.configure (recordOfBytes_recordBytes record)⟩
  case offerStart target => exact ⟨rfl, congrArg Instr.offerStart (halfAt_halfBytes target)⟩
  case offerRamp target => exact ⟨rfl, congrArg Instr.offerRamp (halfAt_halfBytes target)⟩
  case report position flags => exact ⟨rfl, congrArg (Instr.report · flags) (wordAt_wordBytes position [flags])⟩
  all_goals exact ⟨rfl, rfl⟩

/-! ## The tests of R152 on a request's envelope -/

/-- An envelope whose length byte and check byte are right, with its kind's length, passes every test, whatever bytes follow it. -/
theorem transactionCommand_whole {kind length check : Byte} {body : List Byte} (more : List Byte) (hlength : length.toNat = body.length)
    (hsum : byteSum (kind :: length :: (body ++ [check])) = 0) (hkind : requestBody kind = some body.length) :
    transactionCommand (kind :: length :: (body ++ check :: more)) = requestOf kind body := by
  have hmax := requestBody_le_maxBody hkind
  have htake : (kind :: length :: (body ++ check :: more)).take (body.length + 3) = kind :: length :: (body ++ [check]) := by
    have hbody : (body ++ [check] ++ more).take (body.length + 1) = body ++ [check] := List.take_left' List.length_append
    rw [List.append_cons, List.take_succ_cons, List.take_succ_cons, hbody]
  have hpassed : ¬ (Config.maxBody < body.length ∨ (body ++ check :: more).length < body.length + 1 ∨
      byteSum (kind :: length :: (body ++ [check])) ≠ 0) := by
    simp [hsum, hmax]
  have hrest : body ++ check :: more ≠ [] := List.append_ne_nil_of_right_ne_nil body (List.cons_ne_nil check more)
  simp only [transactionCommand, hlength, htake, if_neg hpassed, if_neg hrest, hkind]
  rw [if_pos trivial, List.take_left]

/-- The envelope of a kind with a body of its length passes them. -/
theorem transactionCommand_requestEnvelope {kind : Byte} {body : List Byte} (more : List Byte)
    (h : requestBody kind = some body.length) : transactionCommand (requestEnvelope kind body ++ more) = requestOf kind body := by
  have hlength : (BitVec.ofNat 8 body.length).toNat = body.length := by
    rw [BitVec.toNat_ofNat]
    exact Nat.mod_eq_of_lt (Nat.lt_of_le_of_lt (requestBody_le_maxBody h) (by decide))
  rw [requestEnvelope, List.append_assoc]
  exact transactionCommand_whole more hlength (byteSum_withCheck ([kind, BitVec.ofNat 8 body.length] ++ body)) h

/-- Settles O10, from the kind and body of each request and the tests that its envelope passes. -/
theorem requestEncodingReadsBack : Obligations.RequestEncodingReadsBack := by
  intro i bytes more hi
  obtain ⟨⟨kind, body⟩, hparts, rfl⟩ := Option.map_eq_some_iff.1 hi
  obtain ⟨hlength, hrequest⟩ := requestOf_requestParts hparts
  exact (transactionCommand_requestEnvelope more hlength).trans hrequest

end Sys2Proof.Machine
end

section
/-! PROOFS. The local port's own commands (R149, R151 to R155): the envelope fixed at the fall of CS_N, what a rise takes of it, and the response
made READY; and the step that runs the command at the front of the queue. -/

namespace Sys2Proof.Machine
open Sys2Proof

/-- Settles O1, from the step on a queue that is not empty. -/
theorem stepRunsFrontCommand : Obligations.StepRunsFrontCommand := fun _ _ _ => rfl

/-! ## The fall of CS_N -/

theorem State.startTransaction_lost {s : State} (hr : s.inReset = true) (hb : s.port.buffer.isPending = false) :
    s.startTransaction = { s with port := { s.port with transaction := none, lost := true } } := if_pos ⟨hr, hb⟩

theorem State.startTransaction_begun {s : State} (h : s.inReset = false ∨ s.port.buffer.isPending = true) :
    s.startTransaction = { s with port := { s.port with transaction := some s.port.buffer.openTransaction } } :=
  if_neg fun ⟨hr, hb⟩ => by simp [hr, hb] at h

/-- The bytes of every envelope sum to 0 modulo 256 (R151). -/
theorem Buffer.byteSum_envelope (b : Buffer) : byteSum b.envelope = 0 := by
  cases b <;> exact byteSum_withCheck _

/-- Settles O5, by the state of the buffer. -/
theorem transactionStartFixesEnvelope : Obligations.TransactionStartFixesEnvelope := by
  refine fun s => ⟨fun h => ?_, fun hr hb => congrArg _ (State.startTransaction_lost hr hb)⟩
  refine ⟨s.port.buffer.openTransaction, congrArg _ (State.startTransaction_begun h), s.port.buffer.byteSum_envelope, rfl, rfl,
    fun hb => ?empty, fun r hb => ?ready, fun p hb => ?pending⟩ <;> rw [hb]
  case empty => exact ⟨rfl, rfl⟩
  case ready => exact ⟨rfl, _, rfl⟩
  case pending => exact ⟨rfl, _, rfl⟩

/-! ## The rise of CS_N -/

/-- A rise that ends a whole envelope, a request or one of the two errors that are answered (R152), is a transaction that the port takes or only
ends. -/
theorem exec_eq_transact {c : Instr} (s : State)
    (h : (requestParts c).isSome = true ∨ (∃ kind, c = .badFormat kind) ∨ ∃ kind, c = .unknownRequest kind) :
    ∃ taken, exec c s = .next (s.transact taken) := by
  rcases h with h | ⟨kind, rfl⟩ | ⟨kind, rfl⟩
  case inr.inl => exact ⟨_, exec_badFormat kind s⟩
  case inr.inr => exact ⟨_, exec_unknownRequest kind s⟩
  case inl =>
    cases c with
    | nop | configure _ | join | leave | offerStart _ | offerRamp _ | withdrawOffer | raiseStop | clearStop | setHold | releaseHold
    | report _ _ | readSetpoint | readStatus | readRoster _ | readProposal _ | readNotice | readConfig | restart => exact ⟨_, rfl⟩
    | _ => exact absurd h Bool.false_ne_true

/-- Settles O7, by whether the port takes the transaction. -/
theorem transactionsThatReachNoOwner : Obligations.TransactionsThatReachNoOwner := by
  refine ⟨⟨exec_shortTransaction, exec_transactionDiscarded, fun c s hs hc => ?untaken⟩, fun kind s hs => ⟨?bad, ?unknown⟩⟩
  case untaken =>
    obtain ⟨taken, hexec⟩ := exec_eq_transact s hc
    rw [hexec, State.transact_untaken taken hs]
  case bad => rw [exec_badFormat, State.takeRequest_read kind _ hs]
  case unknown => rw [exec_unknownRequest, State.takeRequest_read kind _ hs]

/-- With no request in processing NOP leaves the buffer EMPTY. -/
theorem State.takeNop_eq {s : State} (h : s.port.buffer.isPending = false) :
    s.takeNop = { s with port := { s.port with buffer := .empty } } := by
  unfold State.takeNop
  split
  case h_1 hb => rw [← hb]
  case h_2 => rfl
  case h_3 p hb => rw [hb] at h; cases h

/-- Settles O8, from the buffer that a transaction taken finds. -/
theorem nopEmptiesTheBuffer : Obligations.NopEmptiesTheBuffer := by
  intro s hs
  obtain ⟨-, -, hbuffer, -⟩ := s.takesTransaction_iff.1 hs
  rw [exec_nop, State.transact_taken _ hs, State.takeNop_eq (s := s.deselected) hbuffer]
  rfl

/-! ## RESPONSE_READY -/

theorem exec_responseReady_free {s : State} (h : s.inReset = false) : exec .responseReady s = .next s.completeProcessing := by
  rw [exec_responseReady, h]; rfl

theorem State.completeProcessing_answered {s : State} {p : Processing} {result : Result} {body : List Byte}
    (hp : s.port.buffer = .pending p) (ha : p.answer = some (result, body)) :
    s.completeProcessing = { s with port := { s.port with buffer := .ready { kindEcho := p.kind, result := result, body := body } } } := by
  simp [State.completeProcessing, hp, ha]

/-- With no answer waiting there is nothing to store. -/
theorem State.completeProcessing_unanswered {s : State} (h : ∀ p, s.port.buffer = .pending p → p.answer = none) :
    s.completeProcessing = s := by
  unfold State.completeProcessing
  split
  · rfl
  · rfl
  · rw [h _ ‹_›]

/-- Settles O9, by whether an answer waits. -/
theorem responseReadyStoresTheAnswer : Obligations.ResponseReadyStoresTheAnswer := by
  intro s hr
  rw [exec_responseReady_free hr]
  exact ⟨fun p result body hp ha => congrArg _ (State.completeProcessing_answered hp ha),
    fun h => congrArg _ (State.completeProcessing_unanswered h)⟩

end Sys2Proof.Machine
end

section
/-! PROOFS. Notices (R163 to R166): the lowest and the highest class in a queue, the oldest notice of a class, the post to a full queue, and
READ_NOTICE. -/

namespace Sys2Proof.Machine
open Sys2Proof

/-! ## The classes present in a queue -/

/-- The lowest class is the least rank present: the 2 that the search begins with is above no rank. -/
theorem min?_map_rank {queue : List Notice} (h : queue ≠ []) : (queue.map Notice.rank).min? = some (lowestRank queue) := by
  cases queue with
  | nil => exact absurd rfl h
  | cons n queue =>
    rw [List.map_cons, List.min?_cons', List.foldl_map, lowestRank, List.foldl_cons, Nat.min_eq_right n.rank_le]

/-- The highest class is the greatest rank present: the 0 that the search begins with is below no rank. -/
theorem max?_map_rank {queue : List Notice} (h : queue ≠ []) : (queue.map Notice.rank).max? = some (highestRank queue) := by
  cases queue with
  | nil => exact absurd rfl h
  | cons n queue => rw [List.map_cons, List.max?_cons', List.foldl_map, highestRank, List.foldl_cons, Nat.zero_max]

theorem lowestRank_le {queue : List Notice} {n : Notice} (h : n ∈ queue) : lowestRank queue ≤ n.rank :=
  (List.min?_eq_some_iff.1 (min?_map_rank (List.ne_nil_of_mem h))).2 _ (List.mem_map_of_mem h)

theorem le_highestRank {queue : List Notice} {n : Notice} (h : n ∈ queue) : n.rank ≤ highestRank queue :=
  (List.max?_eq_some_iff.1 (max?_map_rank (List.ne_nil_of_mem h))).2 _ (List.mem_map_of_mem h)

/-- A queue that is not empty holds a notice of its highest class. -/
theorem exists_highestRank {queue : List Notice} (h : queue ≠ []) : ∃ m ∈ queue, m.rank = highestRank queue :=
  List.mem_map.1 (List.max?_eq_some_iff.1 (max?_map_rank h)).1

/-! ## The oldest notice of a class -/

/-- A queue in which this is the oldest notice of its class: none before it is of that class. -/
structure OldestOfClass (queue before : List Notice) (n : Notice) (after : List Notice) : Prop where
  split : queue = before ++ n :: after
  oldest : ∀ m ∈ before, m.rank ≠ n.rank

/-- A class that is present has an oldest notice. -/
theorem exists_oldestOfClass {queue : List Notice} {r : Nat} (h : ∃ m ∈ queue, m.rank = r) :
    ∃ before n after, n.rank = r ∧ OldestOfClass queue before n after := by
  obtain ⟨m, hm, hr⟩ := h
  obtain ⟨n, before, after, hbefore, hn, hsplit, -⟩ := List.exists_of_eraseP (p := fun m => m.rank == r) hm (beq_iff_eq.2 hr)
  obtain rfl : n.rank = r := beq_iff_eq.1 hn
  exact ⟨before, n, after, rfl, hsplit, fun m hm h => hbefore m hm (beq_iff_eq.2 h)⟩

section
variable {queue before after : List Notice} {n : Notice}

/-- Taking the first notice of its class takes it, and leaves the others in their order. -/
theorem OldestOfClass.eraseP (h : OldestOfClass queue before n after) :
    queue.eraseP (fun m => m.rank == n.rank) = before ++ after := by
  rw [h.split, List.eraseP_append_right _ fun m hm => mt beq_iff_eq.1 (h.oldest m hm),
    List.eraseP_cons_of_pos (p := fun m : Notice => m.rank == n.rank) (beq_self_eq_true _)]

theorem OldestOfClass.find? (h : OldestOfClass queue before n after) :
    queue.find? (fun m => m.rank == n.rank) = some n :=
  List.find?_eq_some_iff_append.2 ⟨beq_self_eq_true _, before, after, h.split, fun m hm => by simpa using h.oldest m hm⟩

theorem OldestOfClass.mem_of_mem_before (h : OldestOfClass queue before n after) {m : Notice} (hm : m ∈ before) : m ∈ queue :=
  h.split ▸ List.mem_append_left _ hm

/-- Every notice older than the oldest of the lowest class is of a higher one. -/
theorem OldestOfClass.lt_of_lowest (h : OldestOfClass queue before n after) (hr : n.rank = lowestRank queue) :
    ∀ m ∈ before, n.rank < m.rank := fun m hm =>
  Nat.lt_of_le_of_ne (hr ▸ lowestRank_le (h.mem_of_mem_before hm)) (h.oldest m hm).symm

/-- Every notice older than the oldest of the highest class is of a lower one. -/
theorem OldestOfClass.lt_of_highest (h : OldestOfClass queue before n after) (hr : n.rank = highestRank queue) :
    ∀ m ∈ before, m.rank < n.rank := fun m hm =>
  Nat.lt_of_le_of_ne (hr ▸ le_highestRank (h.mem_of_mem_before hm)) (h.oldest m hm)

end

/-! ## A post -/

/-- With room the notice goes to the tail (R163). -/
theorem queuePost_room {queue : List Notice} (n : Notice) (h : queue.length < Config.noticeCapacity) :
    queuePost queue n = queue ++ [n] := if_pos h

/-- At a full queue the oldest notice of the lowest class is discarded, the new one counted (R164). -/
theorem queuePost_full {queue before after : List Notice} {n gone : Notice} (hfull : queue.length = Config.noticeCapacity)
    (hold : OldestOfClass (queue ++ [n]) before gone after) (hr : gone.rank = lowestRank (queue ++ [n])) :
    queuePost queue n = before ++ after := by
  rw [queuePost, if_neg (Nat.not_lt.2 hfull.ge), ← hr, hold.eraseP]

/-- What a full queue loses to a new notice is one notice. -/
theorem OldestOfClass.length_of_post {queue before after : List Notice} {n gone : Notice}
    (hold : OldestOfClass (queue ++ [n]) before gone after) : (before ++ after).length = queue.length := by
  have h := congrArg List.length hold.split
  simp only [List.length_append, List.length_cons, List.length_nil] at h ⊢
  omega

theorem State.post_queue (s : State) (kind : NoticeKind) (station : Nat) (detail : Byte) (value : BitVec 16) :
    (s.post kind station detail value).notices.queue = queuePost s.notices.queue ⟨kind, s.slots.cycle, station, detail, value⟩ := rfl

/-- A post with room leaves the notices-lost flag, one to a full queue sets it (R164). -/
theorem State.post_lost (s : State) (kind : NoticeKind) (station : Nat) (detail : Byte) (value : BitVec 16) :
    (s.post kind station detail value).notices.lost =
      if s.notices.queue.length < Config.noticeCapacity then s.notices.lost else true := by
  have h : (s.post kind station detail value).notices.lost =
      (s.notices.lost || !decide (s.notices.queue.length < Config.noticeCapacity)) := rfl
  rw [h]
  split
  next hroom => simp [hroom]
  next hfull => simp [hfull]

/-- Settles O12, by whether the queue has room. -/
theorem postKeepsTheQueueBounded : Obligations.PostKeepsTheQueueBounded := by
  intro s kind station detail value n t
  refine ⟨s.post_eq kind station detail value, rfl, fun hroom => ?room, fun hfull => ?full⟩
  case room =>
    exact ⟨(s.post_queue kind station detail value).trans (queuePost_room n hroom),
      (s.post_lost kind station detail value).trans (if_pos hroom)⟩
  case full =>
    obtain ⟨before, gone, after, hr, hold⟩ := exists_oldestOfClass (exists_lowestRank (queue := s.notices.queue ++ [n]) (by simp))
    have hqueue : t.notices.queue = before ++ after :=
      (s.post_queue kind station detail value).trans (queuePost_full hfull hold hr)
    refine ⟨?_, ?_, before, after, gone, hold.split, hqueue, fun m hm => hr ▸ lowestRank_le hm, hold.lt_of_lowest hr⟩
    · exact (s.post_lost kind station detail value).trans (if_neg (Nat.not_lt.2 hfull.ge))
    · rw [hqueue, hold.length_of_post, hfull]

/-! ## READ_NOTICE -/

theorem State.answerNotice_empty {s : State} (h : s.notices.queue = []) : s.answerNotice = (s, .empty, []) := by
  simp [State.answerNotice, h, nextNotice]

/-- The oldest notice of the highest class is the body; the queue keeps the others, and ATTN_N is re-examined (R165, R166). -/
theorem State.answerNotice_read {s : State} {before after : List Notice} {n : Notice}
    (hold : OldestOfClass s.notices.queue before n after) (hr : n.rank = highestRank s.notices.queue) :
    s.answerNotice = ({ s with
      notices := { s.notices with queue := before ++ after, attention := attentionOf s.attentionMask (before ++ after) } },
      .ok, noticeBody n) := by
  have hnext : nextNotice s.notices.queue = some n := by rw [nextNotice, ← hr, hold.find?]
  have hread : queueRead s.notices.queue = before ++ after := by rw [queueRead, ← hr, hold.eraseP]
  rw [State.answerNotice, hnext, hread]
  rfl

/-- Settles O13, by whether the queue is empty. -/
theorem readNoticeReturnsTheOldestOfTheHighestClass : Obligations.ReadNoticeReturnsTheOldestOfTheHighestClass := by
  intro s ht
  refine ⟨fun hempty => ?empty, fun hne => ?read⟩
  case empty =>
    rw [exec_readNotice, State.takeRequest_unchanged ht (State.answerNotice_empty (s := s.deselected) hempty)]
  case read =>
    obtain ⟨before, n, after, hr, hold⟩ := exists_oldestOfClass (exists_highestRank hne)
    refine ⟨before, after, n, hold.split, fun m hm => hr ▸ le_highestRank hm, hold.lt_of_highest hr, ?_⟩
    rw [exec_readNotice, State.takeRequest_claims ht (State.answerNotice_read (s := s.deselected) hold hr)]
    rfl

end Sys2Proof.Machine
end

section
/-! PROOFS. Every step keeps the proposal table keyed by origin, empty in the silent states, and within the law of one acknowledgement (R22, R23,
R25): the table's part of the invariant from the law of a table, one lemma for each operation, and the induction over a step. -/

namespace Sys2Proof.Machine
open Sys2Proof

/-! ## The law without the own number among the voters -/

/-- The own entry with the own number put among the voters of its offer. -/
def OwnEntry.widened (own : Station) (e : OwnEntry) : OwnEntry :=
  match e.phase with
  | .queued => e
  | .offered b => { e with phase := .offered { b with voters := setInsert b.voters own } }
  | .committed _ _ _ => e
  | .withdrawn _ _ _ => e

/-- The table with the own number put among the voters of an own offer. -/
def Agreement.widened (own : Station) (g : Agreement) : Agreement := { g with own := g.own.map (·.widened own) }

/-- What `AgreementOk` asks of the table in this station state: the law, whoever the voters of an own offer are. -/
def Agreement.Sound (own : Station) (state : StationState) (g : Agreement) : Prop := (g.widened own).Lawful own state

section
variable {own : Station} {state : StationState} {g g' : Agreement}

@[simp] theorem OwnEntry.widened_isOpen (own : Station) (e : OwnEntry) : (e.widened own).isOpen = e.isOpen := by
  unfold OwnEntry.widened
  cases hp : e.phase <;> simp [OwnEntry.isOpen, hp]

theorem OwnEntry.widened_offered {e : OwnEntry} {b : Ballot} : (e.widened own).phase = .offered b ↔
    ∃ c, e.phase = .offered c ∧ b = { c with voters := setInsert c.voters own } := by
  unfold OwnEntry.widened
  cases hp : e.phase <;> simp [hp, eq_comm]

theorem Agreement.widened_isOpen (own : Station) (g : Agreement) : (g.widened own).own.any (·.isOpen) = g.own.any (·.isOpen) := by
  cases h : g.own <;> simp [Agreement.widened, h]

theorem Agreement.widened_acknowledged (own : Station) (g : Agreement) : (g.widened own).acknowledged = g.acknowledged := by
  unfold Agreement.acknowledged
  rw [Agreement.widened_isOpen]
  rfl

theorem Agreement.widened_conflicts (own : Station) (g : Agreement) (k checked : Station) :
    (g.widened own).conflicts k checked = g.conflicts k checked := by
  unfold Agreement.conflicts
  rw [Agreement.widened_isOpen]
  rfl

/-- The invariant reads the table with the own number and the station state, and the reset. -/
theorem agreementOk_iff (s : State) : AgreementOk s ↔ s.agreement.Sound s.own s.life.state ∧
    (s.inReset = true → s.life.state = .unconfigured) := by
  constructor
  · rintro ⟨hkeyed, hapart, hsilent, hjoining, hreset, hsingle⟩
    rw [openAcknowledged_eq, ← Agreement.widened_acknowledged s.own] at hsingle
    refine ⟨⟨hkeyed, hapart, fun hq => ?_, fun hj => ?_, hsingle, fun e b he hb => ?_⟩, hreset⟩
    · obtain ⟨ho, hothers⟩ := hsilent hq
      exact ⟨by simp [Agreement.widened, ho], hothers⟩
    · simp [Agreement.widened, hjoining hj]
    · obtain ⟨d, -, rfl⟩ := Option.map_eq_some_iff.1 he
      obtain ⟨c, -, rfl⟩ := OwnEntry.widened_offered.1 hb
      simp
  · rintro ⟨⟨hkeyed, hapart, hsilent, hjoining, hsingle, -⟩, hreset⟩
    rw [Agreement.widened_acknowledged, ← openAcknowledged_eq] at hsingle
    refine ⟨hkeyed, hapart, fun hq => ?_, fun hj => ?_, hreset, hsingle⟩
    · obtain ⟨ho, hothers⟩ := hsilent hq
      exact ⟨Option.map_eq_none_iff.1 ho, hothers⟩
    · exact Option.map_eq_none_iff.1 (hjoining hj)

theorem OwnEntry.GoesOn.widened {d e : OwnEntry} (h : d.GoesOn e) (own : Station) : (d.widened own).GoesOn (e.widened own) where
  isOpen := by simpa using h.isOpen
  offered b hb := by
    obtain ⟨c, hc, rfl⟩ := OwnEntry.widened_offered.1 hb
    obtain ⟨x, hx, hv⟩ := h.offered c hc
    exact ⟨_, OwnEntry.widened_offered.2 ⟨x, hx, rfl⟩, by rw [hv]⟩

/-- A table that loses entries, or whose own entry goes on, stays sound. -/
theorem Agreement.Sound.shrink (h : g.Sound own state) (hothers : g'.others.Sublist g.others)
    (hown : ∀ e, g'.own = some e → ∃ d, g.own = some d ∧ d.GoesOn e) : g'.Sound own state :=
  Agreement.Lawful.shrink h hothers fun e he => by
    obtain ⟨x, hx, rfl⟩ := Option.map_eq_some_iff.1 he
    obtain ⟨d, hd, hde⟩ := hown x hx
    exact ⟨d.widened own, by simp [Agreement.widened, hd], hde.widened own⟩

theorem Agreement.Sound.without (h : g.Sound own state) (k : Station) : (g.without k).Sound own state :=
  h.shrink List.filter_sublist fun e he => by
    obtain ⟨d, hd, rfl⟩ := Option.map_eq_some_iff.1 he
    exact ⟨d, hd, .without d k⟩

theorem Agreement.Sound.recorded (h : g.Sound own state) (ht : state.transmits = true) {k : Station} (hk : k ≠ own) (o : OfferPart) :
    (g.recorded k o).Sound own state := by
  have hw : (g.recorded k o).widened own = (g.widened own).recorded k o := by
    have hother : (g.widened own).other? k = g.other? k := rfl
    unfold Agreement.recorded
    rw [hother]
    (repeat' split) <;> rfl
  unfold Agreement.Sound
  rw [hw]
  exact Agreement.Lawful.recorded h ht hk o

theorem Agreement.Sound.decided (h : g.Sound own state) (k : Station) (d : DecisionPart) : (g.decided k d).Sound own state := by
  have hw : (g.decided k d).widened own = (g.widened own).decided k d := by
    have hother : (g.widened own).other? k = g.other? k := rfl
    unfold Agreement.decided
    rw [hother]
    (repeat' split) <;> rfl
  unfold Agreement.Sound
  rw [hw]
  exact Agreement.Lawful.decided h k d

end

/-! ## The invariant, by what it reads -/

section
variable {s t : State}

theorem AgreementOk.sound (h : AgreementOk s) : s.agreement.Sound s.own s.life.state := ((agreementOk_iff s).1 h).1

/-- Only an unconfigured station is held in reset. -/
theorem AgreementOk.running (h : AgreementOk s) (hl : s.life.state ≠ .unconfigured) : s.inReset ≠ true := fun hr => hl (h.reset hr)

/-- An operation that moves the table soundly, and nothing else that the invariant reads. -/
theorem AgreementOk.of_table (h : AgreementOk s) (hr : t.inReset = s.inReset) (hl : t.life.state = s.life.state)
    (hn : t.store = s.store) (hg : t.agreement.Sound s.own s.life.state) : AgreementOk t := by
  rw [agreementOk_iff, State.own, hr, hl, hn]
  exact ⟨hg, h.reset⟩

/-- An operation that moves nothing that the invariant reads. -/
theorem AgreementOk.of_unmoved (h : AgreementOk s) (hr : t.inReset = s.inReset) (hl : t.life.state = s.life.state)
    (hn : t.store = s.store) (hg : t.agreement = s.agreement) : AgreementOk t :=
  h.of_table hr hl hn (hg ▸ h.sound)

/-- A state with an empty table. -/
theorem AgreementOk.of_empty (hr : t.inReset = true → t.life.state = .unconfigured) (ho : t.agreement.own = none)
    (hothers : t.agreement.others = []) : AgreementOk t :=
  (agreementOk_iff t).2 ⟨.of_empty (by simp [Agreement.widened, ho]) hothers, hr⟩

/-- A change from a silent state to any state, with the table left as it is: empty. -/
theorem AgreementOk.of_silent (h : AgreementOk s) (hs : s.life.state.transmits = false)
    (hr : t.inReset = true → t.life.state = .unconfigured) (hg : t.agreement = s.agreement) : AgreementOk t := by
  obtain ⟨ho, hothers⟩ := h.silent hs
  exact .of_empty hr (hg ▸ ho) (hg ▸ hothers)

/-- The table goes on from one station state into a transmitting one other than JOINING. -/
theorem AgreementOk.enter (h : AgreementOk s) (hl : s.life.state ≠ .unconfigured) (ht : t.life.state.transmits = true)
    (hj : t.life.state ≠ .joining) (hr : t.inReset = s.inReset) (hn : t.store = s.store) (hg : t.agreement = s.agreement) :
    AgreementOk t := by
  rw [agreementOk_iff, State.own, hr, hn, hg]
  exact ⟨Agreement.Lawful.enter h.sound ht hj, fun hreset => absurd hreset (h.running hl)⟩

/-- A change of kind (a) (Table 5-6). -/
theorem AgreementOk.of_silentExit (h : AgreementOk s) (hl : s.life.state ≠ .unconfigured) (he : SilentExit s t) : AgreementOk t := by
  obtain ⟨-, -, hreset, -⟩ := he.kept
  exact .of_empty (fun hr => absurd (hreset ▸ hr) (h.running hl)) (by rw [he.agreement]) (by rw [he.agreement])

/-- A change of kind (b) (Table 5-6). -/
theorem AgreementOk.rejoin (notice : Option OwnNotice) (hr : s.inReset ≠ true) : AgreementOk (s.rejoin notice) := by
  have he := State.rejoin_exit s notice
  obtain ⟨-, -, hreset, -⟩ := he.kept
  exact .of_empty (fun h => absurd (hreset ▸ h) hr) he.own.1 (by rw [State.rejoin_eq])

theorem AgreementOk.raise (h : AgreementOk s) (cause : StopCause) : AgreementOk (s.raise cause) := by
  apply h.of_unmoved <;> simp

theorem AgreementOk.post (h : AgreementOk s) (kind : NoticeKind) (station : Nat) (detail : Byte) (value : BitVec 16) :
    AgreementOk (s.post kind station detail value) :=
  h.of_unmoved rfl rfl rfl rfl

/-- The own entry goes on. -/
theorem AgreementOk.setOwn (h : AgreementOk s) {d e : OwnEntry} (hd : s.agreement.own = some d) (he : d.GoesOn e) :
    AgreementOk (s.setOwnEntry (some e)) :=
  h.of_table rfl rfl rfl (h.sound.shrink (List.Sublist.refl _) fun x hx => ⟨d, hd, by cases hx; exact he⟩)

theorem AgreementOk.dropOwn (h : AgreementOk s) : AgreementOk (s.setOwnEntry none) :=
  h.of_table rfl rfl rfl (h.sound.shrink (List.Sublist.refl _) nofun)

end

/-! ## Requests and limits (R26, R32, R33, R35, R36, R43, R45) -/

section
variable {s : State}

/-- A request for an offer queues the own entry at a MEMBER, or changes nothing. -/
theorem AgreementOk.takeOffer (h : AgreementOk s) (kind : OfferKind) (target : Speed) : AgreementOk (s.takeOffer kind target).1 := by
  unfold State.takeOffer
  split
  · exact h
  next hm =>
    have hm : s.life.state = .member := Classical.not_not.1 hm
    split
    · exact h
    · split
      · exact h
      · exact h.of_table rfl rfl rfl (Agreement.Lawful.queueOwn h.sound (by rw [hm]; rfl) (by simp [hm]) rfl _)

theorem AgreementOk.withdrawOffer (h : AgreementOk s) : AgreementOk s.withdrawOffer.1 := by
  show AgreementOk s.withdrawOwn.1
  unfold State.withdrawOwn
  split
  · exact h
  next e he =>
    split
    · exact h.dropOwn.post ..
    · exact (h.setOwn he (.withdrawn e rfl)).post ..
    · exact h
    · exact h

theorem AgreementOk.leaveOwn (h : AgreementOk s) : AgreementOk s.leaveOwn := by
  unfold State.leaveOwn
  split
  · exact h
  next e he =>
    split
    · exact h.dropOwn.post ..
    · exact (h.setOwn he (.withdrawn e rfl)).post ..
    · exact h
    · exact h

theorem AgreementOk.expireOffer (h : AgreementOk s) : AgreementOk s.expireOffer := by
  unfold State.expireOffer
  split
  · exact h
  next e b hb => exact (h.setOwn (State.own_of_ownExpired hb) (.withdrawn e rfl)).post ..

theorem AgreementOk.removeWithdrawn (h : AgreementOk s) : AgreementOk s.removeWithdrawn := by
  unfold State.removeWithdrawn
  split
  · exact h.dropOwn
  · exact h

theorem AgreementOk.endGrace (h : AgreementOk s) : AgreementOk s.endGrace := by
  unfold State.endGrace
  split
  · exact h.of_table rfl rfl rfl (h.sound.shrink List.filter_sublist fun e he => ⟨e, he, .refl e⟩)
  · exact h

theorem AgreementOk.removeMember (h : AgreementOk s) (k : Station) (reason : RemovalReason) : AgreementOk (s.removeMember k reason) := by
  apply h.of_table
  case hg => rw [State.removeMember_agreement]; exact h.sound.without k
  all_goals simp

theorem AgreementOk.missedLimitEvent (h : AgreementOk s) (k : Station) : AgreementOk (s.missedLimitEvent k) := by
  unfold State.missedLimitEvent State.takeMissedLimit
  dsimp only
  split
  · split
    · exact h.removeMember k .missed
    · exact h.of_unmoved rfl rfl rfl rfl
  · exact h

/-! ## The parts of a frame (R29, R40 to R43) -/

theorem AgreementOk.recordOffer (h : AgreementOk s) (ht : s.life.state.transmits = true) {k : Station} (hk : k ≠ s.own)
    (o : OfferPart) : AgreementOk (s.recordOffer k o) := by
  rw [State.recordOffer_eq]
  exact h.of_table rfl rfl rfl (h.sound.recorded ht hk o)

theorem AgreementOk.takeDecision (h : AgreementOk s) (k : Station) (d : DecisionPart) : AgreementOk (s.takeDecision k d) := by
  apply h.of_table
  case hg => rw [State.takeDecision_agreement]; exact h.sound.decided k d
  all_goals simp

theorem AgreementOk.takeProposalParts (h : AgreementOk s) (ht : s.life.state.transmits = true) {f : Frame} (hf : f.station ≠ s.own) :
    AgreementOk (s.takeProposalParts f) := by
  have offered (o : OfferPart) :
      AgreementOk (if f.state = .member ∧ s.life.state ≠ .leaving then s.recordOffer f.station o else s) := by
    split
    · exact h.recordOffer ht hf o
    · exact h
  unfold State.takeProposalParts
  cases f.offer with
  | none => cases f.decision with
    | none => exact h
    | some d => exact h.takeDecision f.station d
  | some o => cases f.decision with
    | none => exact offered o
    | some d => exact (offered o).takeDecision f.station d

theorem AgreementOk.collectVerdicts (h : AgreementOk s) (k : Station) (responses : List ResponsePart) :
    AgreementOk (s.collectVerdicts k responses) := by
  unfold State.collectVerdicts
  split
  · exact h
  next e he =>
    split
    · exact h
    next b hb => exact h.setOwn he (.of_offered hb rfl (Ballot.collects_voters ..))
    · exact h
    · exact h

theorem AgreementOk.takeAgreementPart (h : AgreementOk s) (ht : s.life.state.transmits = true) {f : Frame} (hf : f.station ≠ s.own) :
    AgreementOk (s.takeAgreementPart f) := by
  unfold State.takeAgreementPart
  dsimp only
  split
  · exact (h.takeProposalParts ht hf).collectVerdicts _ _
  · exact h.takeProposalParts ht hf

/-- The four parts in any of the eight orders (R118): the agreement part alone moves the table, under the station state and the number from
before. -/
theorem AgreementOk.takeParts (h : AgreementOk s) (ht : s.life.state.transmits = true) {f : Frame} (hf : f.station ≠ s.own)
    (order : PartOrder) : AgreementOk (s.takeParts f order) := by
  unfold State.takeParts
  extract_lets agree reference hold stopTaken
  let Reached (t : State) : Prop := AgreementOk t ∧ t.life = s.life ∧ t.store = s.store
  have agrees (place : Fin 4) {t : State} : Reached t → Reached (agree place t) := by
    rintro ⟨htable, hlife, hstore⟩
    dsimp only [agree]
    split
    · refine ⟨htable.takeAgreementPart ?_ ?_, by simpa using hlife, by simpa using hstore⟩
      · rw [hlife]; exact ht
      · rw [State.own, hstore]; exact hf
    · exact ⟨htable, hlife, hstore⟩
  have refers {t : State} : Reached t → Reached (reference t) := fun ⟨htable, hlife, hstore⟩ =>
    ⟨by apply htable.of_unmoved <;> simp [reference], by simpa [reference] using hlife, by simpa [reference] using hstore⟩
  have holds {t : State} : Reached t → Reached (hold t) := fun ⟨htable, hlife, hstore⟩ =>
    ⟨by apply htable.of_unmoved <;> simp [hold], by simpa [hold] using hlife, by simpa [hold] using hstore⟩
  have stops {t : State} : Reached t → Reached (t.takeStopPart f) := fun ⟨htable, hlife, hstore⟩ =>
    ⟨by apply htable.of_unmoved <;> simp, by simpa using hlife, by simpa using hstore⟩
  have start : Reached stopTaken := agrees 1 (stops (agrees 0 ⟨h, rfl, rfl⟩))
  split
  · exact (agrees 3 (holds (agrees 2 (refers start)))).1
  · exact (agrees 3 (refers (agrees 2 (holds start)))).1

/-! ## Frames handed on (R117) -/

theorem AgreementOk.realign (h : AgreementOk s) (k : Station) (endTime bytes : Nat) : AgreementOk (s.realign k endTime bytes) := by
  apply h.of_unmoved <;> simp

theorem AgreementOk.takeMemberJoining (h : AgreementOk s) (f : Frame) : AgreementOk (s.takeMemberJoining f) := by
  unfold State.takeMemberJoining
  extract_lets k e t u
  split
  · exact h.of_unmoved rfl rfl rfl rfl
  · have hu : AgreementOk u := (h.removeMember k .restarted).post ..
    apply hu.of_unmoved <;> simp

/-- A member's frame at a MEMBER or a LEAVING station. -/
theorem AgreementOk.takeFromMember (h : AgreementOk s) (ht : s.life.state.transmits = true) {f : Frame} (hf : f.station ≠ s.own)
    (endTime bytes : Nat) (order : PartOrder) : AgreementOk (s.takeFromMember f endTime bytes order) := by
  unfold State.takeFromMember
  extract_lets k t u
  have hheard : AgreementOk t := by
    apply (h.realign k endTime bytes).of_unmoved <;> simp [t]
  have hu : AgreementOk u := by apply hheard.of_unmoved <;> simp [u]
  have hut : u.life.state.transmits = true := by simpa [u, t] using ht
  have huf : f.station ≠ u.own := by simpa [u, t, State.own] using hf
  split
  · split
    · exact h
    · exact h.of_unmoved rfl rfl rfl rfl
  · split
    · exact h
    · split
      · exact hheard.takeMemberJoining f
      · split
        · have he : AgreementOk (u.takeEvidence f) := hu.of_unmoved rfl rfl rfl rfl
          exact he.takeParts hut huf order
        · exact hu.takeAgreementPart hut huf

/-- A member frame at a JOINING station (R119). -/
theorem AgreementOk.takeMemberFrame (h : AgreementOk s) (ht : s.life.state.transmits = true) {f : Frame} (hf : f.station ≠ s.own) :
    AgreementOk (s.takeMemberFrame f) := by
  have hparts (r : ReferenceUnit) (l : LifeCycle) (hl : l.state = s.life.state) :
      AgreementOk (State.takeProposalParts { s with reference := r, life := l } f) :=
    AgreementOk.takeProposalParts (s := { s with reference := r, life := l }) (h.of_unmoved rfl hl rfl rfl) (hl ▸ ht) hf
  exact hparts _ _ rfl

theorem AgreementOk.foreignIsland (h : AgreementOk s) (f : Frame) : AgreementOk (s.foreignIsland f) := by
  apply h.of_unmoved <;> simp [State.foreignIsland_state]

/-- A lost merge empties the table, and then takes the winner's frame as a JOINING station's (R100). -/
theorem AgreementOk.islandRule (h : AgreementOk s) (hl : s.life.state ≠ .unconfigured) {f : Frame} (hf : f.station ≠ s.own)
    (endTime bytes : Nat) : AgreementOk (s.islandRule f endTime bytes) := by
  unfold State.islandRule
  split
  · exact h.foreignIsland f
  · split
    · have hj : AgreementOk ((s.adoptTiming f endTime bytes).rejoin none) := .rejoin none (h.running hl)
      refine hj.takeMemberFrame (by rw [(State.rejoin_exit ..).state]; rfl) ?_
      simpa [State.own] using hf
    · exact h

/-- A frame from outside the member set at a MEMBER (R75). -/
theorem AgreementOk.takeFromOutside (h : AgreementOk s) (hl : s.life.state ≠ .unconfigured) {f : Frame} (hf : f.station ≠ s.own)
    (endTime bytes : Nat) : AgreementOk (s.takeFromOutside f endTime bytes) := by
  have heard (b : Bool) : AgreementOk (s.hear f b) := by apply h.of_unmoved <;> simp
  unfold State.takeFromOutside
  extract_lets k t u
  split
  · split
    · exact heard _
    · exact (heard _).of_unmoved rfl rfl rfl rfl
  · split
    · split
      · apply (h.realign k endTime bytes).of_unmoved <;> simp
      · exact h
    · obtain ⟨hu, hul, hus⟩ : AgreementOk u ∧ u.life = s.life ∧ u.store = s.store := by
        dsimp only [u]
        split
        · exact ⟨heard _, by simp [t], by simp [t]⟩
        · exact ⟨(heard _).of_unmoved rfl rfl rfl rfl, by simp [t], by simp [t]⟩
      exact hu.islandRule (by rw [hul]; exact hl) (by rw [State.own, hus]; exact hf) endTime bytes

theorem AgreementOk.goSilent (h : AgreementOk s) (hl : s.life.state ≠ .unconfigured) (next : StationState)
    (isolation : Option IsolationCause) (notice : Option OwnNotice) : AgreementOk (s.goSilent next isolation notice) :=
  h.of_silentExit hl (State.goSilent_exit ..)

theorem AgreementOk.stopListening (h : AgreementOk s) (hl : s.life.state = .listening) (notice : Option OwnNotice) :
    AgreementOk (s.stopListening notice) := by
  rw [State.stopListening_eq]
  exact h.of_silent (by rw [hl]; rfl) (fun hr => absurd hr (h.running (by simp [hl]))) rfl

theorem AgreementOk.takeOwnNumber (h : AgreementOk s) (f : Frame) : AgreementOk (s.takeOwnNumber f) := by
  unfold State.takeOwnNumber
  cases hl : s.life.state with
  | listening => exact h.stopListening hl _
  | joining => exact h.goSilent (by simp [hl]) _ _ _
  | leaving => exact h.goSilent (by simp [hl]) _ _ _
  | member => exact h.goSilent (by simp [hl]) _ _ _
  | unconfigured => exact h
  | idle => exact h
  | isolated => exact h

theorem AgreementOk.takeListening (h : AgreementOk s) (hl : s.life.state = .listening) {f : Frame} (hf : f.station ≠ s.own)
    (endTime bytes : Nat) : AgreementOk (s.takeListening f endTime bytes) := by
  have hjoining : AgreementOk (s.startJoining f endTime bytes) := by
    rw [State.startJoining_eq]
    exact h.of_silent (by rw [hl]; rfl) (fun hr => absurd hr (h.running (by simp [hl]))) rfl
  unfold State.takeListening
  split
  · split
    · exact hjoining.takeMemberFrame rfl hf
    · apply h.of_unmoved <;> simp [State.restartWindow, State.reportMismatch_state]
  · split
    · exact h.of_unmoved rfl rfl rfl rfl
    · exact h

theorem AgreementOk.handOn (h : AgreementOk s) (f : Frame) (endTime bytes : Nat) (order : PartOrder) :
    AgreementOk (s.handOn f endTime bytes order) := by
  unfold State.handOn
  split
  · exact h.takeOwnNumber f
  next hf =>
    cases hl : s.life.state with
    | unconfigured => exact h
    | idle => exact h
    | isolated => exact h
    | listening => exact h.takeListening hl hf endTime bytes
    | joining =>
      dsimp only
      split
      · exact (h.realign f.station endTime bytes).takeMemberFrame (by simp [hl, StationState.transmits]) (by simpa [State.own] using hf)
      · exact h
    | member =>
      dsimp only
      split
      · exact h.takeFromMember (by rw [hl]; rfl) hf endTime bytes order
      · exact h.takeFromOutside (by simp [hl]) hf endTime bytes
    | leaving =>
      dsimp only
      split
      · exact h.takeFromMember (by rw [hl]; rfl) hf endTime bytes order
      · exact h

theorem AgreementOk.receiveWhole (h : AgreementOk s) (order : PartOrder) : AgreementOk (s.receiveWhole order) := by
  have taken : AgreementOk (s.setReceipt none) := h.of_unmoved rfl rfl rfl rfl
  unfold State.receiveWhole
  split
  · exact h
  · split
    · exact h
    · dsimp only
      split
      · split
        · exact taken
        · exact taken.handOn _ _ _ order
      · exact taken

/-! ## The boundary (R44, R131) -/

/-- The due entries leave the table (R44). -/
theorem AgreementOk.removeDue (h : AgreementOk s) (new : Cycle) : AgreementOk (s.removeDue new) :=
  h.of_table rfl rfl rfl
    (h.sound.shrink List.filter_sublist fun e he => ⟨e, (Option.filter_eq_some_iff.1 he).1, .refl e⟩)

theorem AgreementOk.rosterPublication (h : AgreementOk s) (k : Station) : AgreementOk (s.rosterPublication k) := by
  apply h.of_table
  case hg =>
    rcases s.rosterPublication_agreement k with hk | hk <;> rw [hk]
    · exact h.sound
    · exact h.sound.without k
  all_goals simp

theorem AgreementOk.rosterDeparture (h : AgreementOk s) (k : Station) : AgreementOk (s.rosterDeparture k) := by
  unfold State.rosterDeparture
  dsimp only
  split
  · exact h.removeMember k .left
  · exact h

/-- The roster's work at a boundary, station by station. -/
theorem AgreementOk.stations {f : State → Station → State} (hf : ∀ {s : State}, AgreementOk s → ∀ k, AgreementOk (f s k))
    (l : List Station) {s : State} (h : AgreementOk s) : AgreementOk (l.foldl f s) := by
  induction l generalizing s with
  | nil => exact h
  | cons k l ih => exact ih (hf h k)

theorem AgreementOk.publish (h : AgreementOk s) : AgreementOk s.publish := by
  have hpublished : AgreementOk s.published := (h.removeDue s.slots.cycle).of_unmoved rfl rfl rfl rfl
  rw [State.publish_eq]
  exact .stations AgreementOk.rosterPublication _ hpublished

theorem AgreementOk.pruneIslands (h : AgreementOk s) : AgreementOk s.pruneIslands := h.of_unmoved rfl rfl rfl rfl

/-- Every block's boundary work (R131), by station state. -/
theorem AgreementOk.boundaryWork (h : AgreementOk s) (exclusionFirst : Bool) : AgreementOk (s.boundaryWork exclusionFirst) := by
  unfold State.boundaryWork
  cases hl : s.life.state with
  | member =>
    dsimp only
    unfold State.memberBoundary
    extract_lets t
    have ht : AgreementOk t := h.of_unmoved rfl (LifeCycle.countExclusion_state _) rfl rfl
    split
    · exact ht
    · exact ht.publish.pruneIslands
  | joining =>
    dsimp only
    have hmarked : AgreementOk s.markOwnClaims := h.of_unmoved rfl rfl rfl rfl
    split
    next set _ =>
      have hadopted : AgreementOk (s.markOwnClaims.adopted set) := hmarked.enter (by simp [hl]) rfl nofun rfl rfl rfl
      rw [State.becomeMember_eq]
      exact hadopted.publish
    · exact (hmarked.removeDue _).of_unmoved rfl rfl rfl rfl
  | leaving =>
    have hmarked : AgreementOk s.markOwnClaims := h.of_unmoved rfl rfl rfl rfl
    have hsuperseded : AgreementOk (s.markOwnClaims.supersedeCommits s.slots.cycle) := by
      apply (hmarked.removeDue s.slots.cycle).of_unmoved <;> simp
    exact .stations AgreementOk.rosterDeparture _ hsuperseded
  | unconfigured => exact h
  | idle => exact h
  | listening => exact h
  | isolated => exact h

theorem AgreementOk.takeBoundary (h : AgreementOk s) (exclusionFirst : Bool) : AgreementOk (s.takeBoundary exclusionFirst) := by
  unfold State.takeBoundary
  split
  · exact h
  next timing _ =>
    have hbegun : AgreementOk (s.beginCycle timing) := h.of_unmoved rfl rfl rfl rfl
    exact hbegun.boundaryWork exclusionFirst

/-! ## The own-slot start (R27, R30, R31, R38, R47) -/

/-- One verdict acknowledges only where nothing else is acknowledged (R25, R38). -/
theorem AgreementOk.giveVerdict (h : AgreementOk s) {e : OtherEntry} (he : e.origin ≠ s.own) : AgreementOk (s.giveVerdict e) := by
  refine h.of_table rfl rfl rfl (Agreement.Lawful.giveVerdict h.sound he fun hv => ?_)
  rw [Agreement.widened_conflicts]
  split at hv
  next hc => exact State.conflicts_of_offerCheck hc
  · exact nomatch hv

theorem AgreementOk.giveVerdicts (h : AgreementOk s) : AgreementOk s.giveVerdicts := by
  have fold (l : List OtherEntry) {t : State} (ht : AgreementOk t) (hl : ∀ e ∈ l, e.origin ≠ t.own) :
      AgreementOk (l.foldl State.giveVerdict t) := by
    induction l generalizing t with
    | nil => exact ht
    | cons e l ih =>
      exact ih (ht.giveVerdict (hl e List.mem_cons_self)) fun d hd => hl d (List.mem_cons_of_mem e hd)
  exact fold _ h fun e he => h.apart e (List.mem_filter.1 he).1

theorem AgreementOk.dealOwnEntry (h : AgreementOk s) (hl : s.life.state = .member) : AgreementOk s.dealOwnEntry := by
  unfold State.dealOwnEntry
  split
  · exact h
  next e he =>
    split
    · split
      · exact h.dropOwn.post ..
      next hc =>
        exact h.of_table rfl rfl rfl (Agreement.Lawful.offerOwn h.sound (by rw [hl]; rfl) (by simp [hl])
          ((Agreement.widened_conflicts ..).trans (State.conflicts_of_offerCheck hc)) rfl (by simp))
    next b hb =>
      split
      · exact (h.setOwn he (.withdrawn e rfl)).post ..
      · split
        · exact h.setOwn he (.committed (by simp [OwnEntry.isOpen, hb]) rfl)
        · exact h
    · exact h
    · exact h

theorem AgreementOk.slotStartWork (h : AgreementOk s) : AgreementOk s.slotStartWork := by
  have hdealt : AgreementOk s.dealt := by
    unfold State.dealt
    split
    next hl => exact h.giveVerdicts.dealOwnEntry (by simpa using hl)
    · exact h
  have hslot : AgreementOk s.agreementSlot.1 := by
    rw [State.agreementSlot_eq]
    cases ho : s.dealt.agreement.own with
    | none => exact hdealt.dropOwn
    | some e => exact hdealt.setOwn ho (.announce e)
  apply hslot.of_unmoved <;> simp [State.slotStartWork]

theorem AgreementOk.takeSlotStart (h : AgreementOk s) : AgreementOk s.takeSlotStart := by
  unfold State.takeSlotStart
  split
  · exact h
  · split
    · exact AgreementOk.slotStartWork (h.of_unmoved rfl rfl rfl rfl)
    · exact h

theorem AgreementOk.expireWindow (h : AgreementOk s) : AgreementOk s.expireWindow := by
  unfold State.expireWindow
  split
  next hl =>
    have hfounded : AgreementOk s.foundLine := by
      rw [State.foundLine_eq]
      exact h.of_silent (by rw [hl]; rfl) (fun hr => absurd hr (h.running (by simp [hl]))) rfl
    exact hfounded.slotStartWork
  · exact h

/-! ## Changes of station state by counts and requests -/

theorem AgreementOk.isolateOnCollisions (h : AgreementOk s) : AgreementOk s.isolateOnCollisions := by
  unfold State.isolateOnCollisions
  split
  next hl => exact h.goSilent (fun hu => by simp [hu, StationState.transmits] at hl) _ _ _
  · exact h

theorem AgreementOk.finishLeaving (h : AgreementOk s) : AgreementOk s.finishLeaving := by
  unfold State.finishLeaving
  split
  next hl => exact h.goSilent (by simp [hl.1]) _ _ _
  · exact h

theorem AgreementOk.exclude (h : AgreementOk s) : AgreementOk s.exclude := by
  unfold State.exclude
  split
  next hl => exact .rejoin _ (h.running (by simp [hl.1]))
  · exact h

theorem AgreementOk.expireQuiet (h : AgreementOk s) : AgreementOk s.expireQuiet := by
  unfold State.expireQuiet
  split
  next hl => exact (h.of_silentExit (by simp [hl.1]) (s.goSilentAtBoundary_exit .listening)).of_unmoved rfl rfl rfl rfl
  · exact h

theorem AgreementOk.configure (h : AgreementOk s) (hr : s.inReset = false) (r : ConfigRecord) : AgreementOk (s.configure r).1 := by
  unfold State.configure
  split
  next hl =>
    split
    · exact h
    · refine h.of_silent (by rw [hl]; rfl) (fun ht => ?_) ?_
      · simp [hr] at ht
      · simp [State.acceptRecord]
  · exact h

theorem AgreementOk.join (h : AgreementOk s) (hr : s.inReset = false) : AgreementOk s.join.1 := by
  unfold State.join
  split
  next hl =>
    refine h.of_silent (by rcases hl with hl | hl <;> rw [hl] <;> rfl) (fun ht => ?_) rfl
    exact absurd (hr.symm.trans ht) nofun
  · exact h

theorem AgreementOk.leave (h : AgreementOk s) : AgreementOk s.leave.1 := by
  unfold State.leave
  cases hl : s.life.state with
  | listening => exact h.stopListening hl none
  | joining => exact h.goSilent (by simp [hl]) _ _ _
  | member =>
    dsimp only
    split
    · exact AgreementOk.leaveOwn (h.enter (by simp [hl]) rfl nofun rfl rfl rfl)
    · exact h
  | unconfigured => exact h
  | idle => exact h
  | leaving => exact h
  | isolated => exact h

end

/-! ## Every step -/

theorem AgreementOk.kept : Kept AgreementOk where
  port _ _ h := h.of_unmoved rfl rfl rfl rfl
  reset _ _ _ := .of_empty (fun _ => rfl) rfl rfl
  complete _ _ hr h := h.of_silent (by rw [h.reset hr]; rfl) nofun rfl
  recogniseInput _ _ _ _ h := by apply h.of_unmoved <;> simp
  beginTransmission _ _ h := by apply h.of_unmoved <;> simp
  collide _ _ h := by apply h.of_unmoved <;> simp
  isolateOnCollisions _ _ h := h.isolateOnCollisions
  endTransmission _ _ h := by apply h.of_unmoved <;> simp
  receiveWhole _ order _ h := h.receiveWhole order
  abandonOnGap _ _ h := h.of_unmoved rfl rfl rfl rfl
  abandon _ _ _ h := h.of_unmoved rfl rfl rfl rfl
  takeCharacter _ _ _ _ h := by apply h.of_unmoved <;> simp
  closeSlot _ _ _ h := by apply h.of_unmoved <;> simp
  takeBoundary _ exclusionFirst _ h := h.takeBoundary exclusionFirst
  takeSlotStart _ _ h := h.takeSlotStart
  expireWindow _ _ h := h.expireWindow
  missedLimitEvent _ k _ h := h.missedLimitEvent k
  finishLeaving _ _ h := h.finishLeaving
  removeWithdrawn _ _ h := h.removeWithdrawn
  takeLag _ _ h := h.of_unmoved rfl rfl rfl rfl
  takeSilent _ _ h := by apply h.of_unmoved <;> simp
  expireOffer _ _ h := h.expireOffer
  endGrace _ _ h := h.endGrace
  exclude _ _ h := h.exclude
  expireQuiet _ _ h := h.expireQuiet
  configure _ record hr h := h.configure hr record
  join _ hr h := h.join hr
  leave _ _ h := h.leave
  takeOffer _ kind target _ h := h.takeOffer kind target
  withdrawOffer _ _ h := h.withdrawOffer
  raiseStop _ _ h := h.raise .localRequest
  clearStop _ _ h := by apply h.of_unmoved <;> simp
  setManualHold _ _ _ h := h.of_unmoved rfl rfl rfl rfl
  report _ _ _ _ h := by apply h.of_unmoved <;> simp [State.answerReport]
  answerStatus _ _ h := h.of_unmoved rfl rfl rfl rfl
  answerNotice _ _ h := by apply h.of_unmoved <;> simp

/-- Settles O58, by the induction over a step of what every operation keeps. -/
theorem stepKeepsTheProposalTable : Obligations.StepKeepsTheProposalTable := fun _ _ hs h =>
  AgreementOk.kept.step (fun _ _ h => h.of_unmoved rfl rfl rfl rfl) (fun _ h => h.of_unmoved rfl rfl rfl rfl) hs h

end Sys2Proof.Machine
end

section
/-! PROOFS. Requests that read (R48, R86, R157, R158): the bodies field by field (Tables 12-7 to 12-9, 12.7), and the answers of READ_SETPOINT,
READ_STATUS, READ_ROSTER and READ_PROPOSAL. -/

namespace Sys2Proof.Machine
open Sys2Proof

/-! ## Flags and station numbers as bytes -/

/-- A flag's bit stands at its position alone. -/
theorem flagBit_getLsbD {position : Nat} (hp : position < 8) (flag : Bool) (i : Nat) :
    (flagBit position flag).getLsbD i = (decide (i = position) && flag) := by
  cases flag with
  | false => simp [flagBit]
  | true =>
    rw [flagBit, if_pos rfl, Bool.and_true, Bool.eq_iff_iff, decide_eq_true_eq, BitVec.getLsbD_shiftLeft]
    simp only [BitVec.ofNat_eq_ofNat, BitVec.getLsbD_one, Bool.and_eq_true, decide_eq_true_eq, Bool.not_eq_true', decide_eq_false_iff_not]
    omega

theorem setpointFlags_getLsbD (r : SetpointRecord) (i : Nat) : (setpointFlags r).getLsbD i = (decide (i = 0) && r.member ||
    decide (i = 1) && r.permit || decide (i = 2) && r.lagHold || decide (i = 3) && r.originLatched) := by
  simp only [setpointFlags, BitVec.getLsbD_or, flagBit_getLsbD (by decide : 0 < 8), flagBit_getLsbD (by decide : 1 < 8),
    flagBit_getLsbD (by decide : 2 < 8), flagBit_getLsbD (by decide : 3 < 8)]

theorem rosterFlags_getLsbD (inSet : Bool) (e : RosterEntry) (i : Nat) : (rosterFlags inSet e).getLsbD i = (decide (i = 0) && inSet ||
    decide (i = 1) && e.restartCause.isSome || decide (i = 2) && e.joiningSince.isSome || decide (i = 3) && e.admissionDue.isSome ||
    decide (i = 4) && e.leaveDue.isSome || decide (i = 5) && e.cycleMismatch) := by
  simp only [rosterFlags, BitVec.getLsbD_or, flagBit_getLsbD (by decide : 0 < 8), flagBit_getLsbD (by decide : 1 < 8),
    flagBit_getLsbD (by decide : 2 < 8), flagBit_getLsbD (by decide : 3 < 8), flagBit_getLsbD (by decide : 4 < 8),
    flagBit_getLsbD (by decide : 5 < 8)]

theorem presenceFlags_getLsbD (offered acks refusal verdict effective withdrawn announced : Bool) (i : Nat) :
    (presenceFlags offered acks refusal verdict effective withdrawn announced).getLsbD i = (decide (i = 0) && offered ||
      decide (i = 1) && acks || decide (i = 2) && refusal || decide (i = 3) && verdict || decide (i = 4) && effective ||
      decide (i = 5) && withdrawn || decide (i = 6) && announced) := by
  simp only [presenceFlags, BitVec.getLsbD_or, flagBit_getLsbD (by decide : 0 < 8), flagBit_getLsbD (by decide : 1 < 8),
    flagBit_getLsbD (by decide : 2 < 8), flagBit_getLsbD (by decide : 3 < 8), flagBit_getLsbD (by decide : 4 < 8),
    flagBit_getLsbD (by decide : 5 < 8), flagBit_getLsbD (by decide : 6 < 8)]

theorem numberByte_toNat (k : Station) : (numberByte k).toNat = stationNumber k := by
  rw [numberByte, BitVec.toNat_ofNat, stationNumber]
  omega

/-- The station of a refusal as a byte, 0 where there is none (R173). -/
theorem refusalNumber_toNat (refusal : Option (Station × Reason)) :
    (codeOr0 numberByte (refusal.map (·.1))).toNat = (refusal.map fun x => stationNumber x.1).getD 0 := by
  cases refusal with
  | none => rfl
  | some x => exact numberByte_toNat x.1

/-! ## The bodies (Tables 12-7 and 12-9, 12.7) -/

/-- Settles O15, each field the bytes that stand at its offset. -/
theorem bodiesFollowTheirLayouts : Obligations.BodiesFollowTheirLayouts := by
  refine ⟨fun r => ⟨rfl, halfBytes_append _, rfl, setpointFlags_getLsbD r, halfBytes_append _, fun hf => ?_, halfBytes_append _, ?_,
      halfBytes_append _⟩,
    fun s k => ⟨rfl, numberByte_toNat k, rfl, rosterFlags_getLsbD _ _, rfl, halfBytes_append _, halfBytes_append _, rfl,
      halfBytes_append _, halfBytes_append _, halfBytes_append _, rfl⟩,
    fun e => ⟨rfl, numberByte_toNat _, rfl, rfl, halfBytes_append _, rfl, presenceFlags_getLsbD _ _ _ _ _ _ _, halfBytes_append _,
      halfBytes_append _, halfBytes_append _, refusalNumber_toNat _, rfl, rfl, halfBytes_append _, rfl, rfl⟩,
    fun n => ⟨rfl, rfl, halfBytes_append _, rfl, rfl, halfBytes_append _⟩⟩
  · have hfield : halfAt (setpointBody r) 6 = if r.f < 65536 then BitVec.ofNat 16 r.f else Config.oversizeF r.f := halfBytes_append _
    rw [hfield, if_pos hf]
  · exact wordAt_wordBytes (BitVec.ofInt 32 r.ef) (halfBytes r.s)

/-! ## The entries shown -/

theorem OwnEntry.shown_origin (own : Station) (e : OwnEntry) : (e.shown own).origin = own := by
  unfold OwnEntry.shown
  cases e.phase <;> rfl

theorem State.shownEntry_origin {s : State} {k : Station} {e : ShownEntry} (h : s.shownEntry k = some e) : e.origin = k := by
  unfold State.shownEntry at h
  split at h
  · obtain ⟨d, -, rfl⟩ := Option.map_eq_some_iff.1 h
    exact d.shown_origin k
  · obtain ⟨d, hd, rfl⟩ := Option.map_eq_some_iff.1 h
    show d.origin = k
    simpa using List.find?_some hd

/-- Only 1..16 name a station. -/
theorem stationOfNumber_outside {b : Byte} (h : b.toNat = 0 ∨ 16 < b.toNat) : stationOfNumber b = none :=
  dif_neg (by omega)

theorem stationOfNumber_of_toNat {b : Byte} {k : Station} (h : b.toNat = stationNumber k) : stationOfNumber b = some k := by
  rw [show b = numberByte k from BitVec.eq_of_toNat_eq (h.trans (numberByte_toNat k).symm), stationOfNumber_numberByte]

/-! ## The answers -/

theorem State.readRoster_outside {s : State} {number : Byte} (h : number.toNat = 0 ∨ 16 < number.toNat) :
    s.readRoster number = (.outOfRange, []) := by
  rw [State.readRoster, stationOfNumber_outside h]

theorem State.readRoster_station {s : State} {number : Byte} {k : Station} (h : number.toNat = stationNumber k) :
    s.readRoster number = (.ok, s.rosterBody k) := by
  rw [State.readRoster, stationOfNumber_of_toNat h]

theorem State.readProposal_outside {s : State} {number : Byte} (h : number.toNat = 0 ∨ 16 < number.toNat) :
    s.readProposal number = (.outOfRange, []) := by
  rw [State.readProposal, stationOfNumber_outside h]

theorem State.readProposal_empty {s : State} {number : Byte} {k : Station} (h : number.toNat = stationNumber k)
    (he : s.shownEntry k = none) : s.readProposal number = (.empty, []) := by
  simp only [State.readProposal, stationOfNumber_of_toNat h, he]

theorem State.readProposal_entry {s : State} {number : Byte} {k : Station} {e : ShownEntry} (h : number.toNat = stationNumber k)
    (he : s.shownEntry k = some e) : s.readProposal number = (.ok, proposalBody e) := by
  simp only [State.readProposal, stationOfNumber_of_toNat h, he]

/-- A request that reads, with what it reads. -/
theorem State.takeRequest_reads {s : State} {kind : Byte} {read : State → Result × List Byte} {result : Result} {body : List Byte}
    (h : s.takesTransaction = true) (hr : read s.deselected = (result, body)) :
    s.takeRequest kind (answerRead read) = s.answered kind result body := by
  rw [State.takeRequest_read kind read h, hr]

/-- Settles O14, from what each owner reads. -/
theorem statusRosterAndProposalsAreRead : Obligations.StatusRosterAndProposalsAreRead := by
  refine ⟨fun s ht => ⟨?_, s.statusBody, ?_, rfl, rfl⟩, fun number s ht => ⟨fun hn => ?_, fun k hk => ⟨?_, fun he => ?_, fun e he => ?_⟩⟩⟩
  · rw [exec_readSetpoint, State.takeRequest_reads ht rfl]
    rfl
  · rw [exec_readStatus, State.takeRequest_taken _ _ ht]
    rfl
  · rw [exec_readRoster, exec_readProposal, State.takeRequest_reads ht (State.readRoster_outside hn),
      State.takeRequest_reads ht (State.readProposal_outside hn)]
    exact ⟨rfl, rfl⟩
  · rw [exec_readRoster, State.takeRequest_reads ht (State.readRoster_station hk)]
    rfl
  · rw [exec_readProposal, State.takeRequest_reads ht (State.readProposal_empty (s := s.deselected) hk he)]
  · rw [exec_readProposal, State.takeRequest_reads ht (State.readProposal_entry (s := s.deselected) hk he)]
    exact ⟨State.shownEntry_origin he, rfl⟩

end Sys2Proof.Machine
end

section
/-! PROOFS. The offer checks (R24, R25, R66): their answers by Table 2-3. -/

namespace Sys2Proof.Machine
open Sys2Proof

/-! ## What the checks read -/

theorem ClaimUnit.stopClaimed_iff (u : ClaimUnit) : u.stopClaimed = true ↔ StopClaimed u := by
  simp only [ClaimUnit.stopClaimed, Bool.or_eq_true, List.any_eq_true, ClaimUnit.mem_records, StopClaimed]
  refine or_congr_right ⟨?_, ?_⟩
  · rintro ⟨r, ⟨k, hk⟩, hr⟩
    exact ⟨k, r, hk, hr⟩
  · rintro ⟨k, r, hk, hr⟩
    exact ⟨r, ⟨k, hk⟩, hr⟩

theorem Agreement.conflicts_iff (s : State) (checked : Station) : s.agreement.conflicts s.own checked = true ↔ Conflicts s checked := by
  simp [Agreement.conflicts, Conflicts, Option.any_eq_true]

/-! ## The checks in their order (Table 2-3) -/

section
variable {s : State} {target : Speed} {voters : Option StationSet} {checked : Station}

/-- The range check and the conflict check, which end both columns of Table 2-3. -/
def State.lastChecks (s : State) (target : Speed) (checked : Station) : Option Reason :=
  if target.toNat = 0 ∨ s.cfg.smax.toNat < target.toNat then some .outOfRange
  else if s.agreement.conflicts s.own checked = true then some .conflict else none

theorem State.lastChecks_cases (s : State) (target : Speed) (checked : Station) :
    let outside : Prop := target.toNat = 0 ∨ s.cfg.smax.toNat < target.toNat
    (s.lastChecks target checked = some .outOfRange ∧ outside) ∨
      (s.lastChecks target checked = some .conflict ∧ ¬ outside ∧ Conflicts s checked) ∨
      (s.lastChecks target checked = none ∧ ¬ outside ∧ ¬ Conflicts s checked) := by
  intro outside
  unfold State.lastChecks
  rw [← Agreement.conflicts_iff]
  by_cases ho : outside
  · exact .inl ⟨if_pos ho, ho⟩
  · rw [if_neg ho]
    by_cases hc : s.agreement.conflicts s.own checked = true
    · exact .inr (.inl ⟨if_pos hc, ho, hc⟩)
    · exact .inr (.inr ⟨if_neg hc, ho, hc⟩)

theorem State.offerCheck_notStopped (h : s.reference.record.ramp ≠ .stopped) :
    s.offerCheck .start target voters checked = some .notStopped :=
  if_pos h

theorem State.offerCheck_stopClaimed (h : s.reference.record.ramp = .stopped) (hc : StopClaimed s.claims) :
    s.offerCheck .start target voters checked = some .stopClaimed :=
  (if_neg (not_not.2 h)).trans (if_pos ((ClaimUnit.stopClaimed_iff _).2 hc))

theorem State.offerCheck_membership (h : s.reference.record.ramp = .stopped) (hc : ¬ StopClaimed s.claims)
    (hv : ∃ w, voters = some w ∧ w ≠ s.memberSet) : s.offerCheck .start target voters checked = some .membership :=
  (if_neg (not_not.2 h)).trans ((if_neg (mt (ClaimUnit.stopClaimed_iff _).1 hc)).trans (if_pos (by simpa [Option.any_eq_true] using hv)))

theorem State.offerCheck_start_last (h : s.reference.record.ramp = .stopped) (hc : ¬ StopClaimed s.claims)
    (hv : ¬ ∃ w, voters = some w ∧ w ≠ s.memberSet) :
    s.offerCheck .start target voters checked = s.lastChecks target checked :=
  (if_neg (not_not.2 h)).trans ((if_neg (mt (ClaimUnit.stopClaimed_iff _).1 hc)).trans (if_neg (by simpa [Option.any_eq_true] using hv)))

theorem State.offerCheck_lineStopping (h : s.reference.record.ramp = .stopping) :
    s.offerCheck .rampTo target voters checked = some .lineStopping :=
  if_pos h

theorem State.offerCheck_notRunning (h : s.reference.record.ramp = .stopped) :
    s.offerCheck .rampTo target voters checked = some .notRunning :=
  (if_neg (by simp [h])).trans (if_pos h)

theorem State.offerCheck_rampTo_last (h : s.reference.record.ramp.free = true) :
    s.offerCheck .rampTo target voters checked = s.lastChecks target checked := by
  obtain ⟨hstopped, hstopping⟩ := (RampState.free_iff _).1 h
  exact (if_neg hstopping).trans (if_neg hstopped)

end

/-- Settles O19: the case in which each check is the first that fails gives its reason, and no other case does. -/
theorem offerChecksFollowTheTable : Obligations.OfferChecksFollowTheTable := by
  intro s target voters checked ramp outside badSet claimed startCheck rampCheck
  have hlast := s.lastChecks_cases target checked
  refine and_assoc.1 (and_assoc.1 (and_assoc.1 (and_assoc.1 (and_assoc.1 ⟨?_, ?_⟩))))
  · by_cases hramp : ramp = .stopped
    · by_cases hclaimed : claimed
      · simp [startCheck, State.offerCheck_stopClaimed hramp hclaimed, hramp, hclaimed]
      · by_cases hset : badSet
        · simp [startCheck, State.offerCheck_membership hramp hclaimed hset, hramp, hclaimed, hset]
        · simp only [startCheck, State.offerCheck_start_last hramp hclaimed hset]
          rcases hlast with ⟨hl, ho⟩ | ⟨hl, ho, hc⟩ | ⟨hl, ho, hc⟩ <;> simp [outside, *]
    · simp [startCheck, State.offerCheck_notStopped hramp, hramp]
  · cases hramp : ramp with
    | stopped => simp [rampCheck, State.offerCheck_notRunning hramp, RampState.free]
    | stopping => simp [rampCheck, State.offerCheck_lineStopping hramp, RampState.free]
    | _ =>
      simp only [rampCheck, State.offerCheck_rampTo_last (s := s) (congrArg RampState.free hramp)]
      rcases hlast with ⟨hl, ho⟩ | ⟨hl, ho, hc⟩ | ⟨hl, ho, hc⟩ <;> simp [outside, RampState.free, *]

end Sys2Proof.Machine
end

section
/-! PROOFS. The requests on the own entry (R26, R35, R37): OFFER_START, OFFER_RAMP and WITHDRAW_OFFER by what stands in the table. -/

namespace Sys2Proof.Machine
open Sys2Proof

/-! ## OFFER_START and OFFER_RAMP (R26) -/

section
variable {s : State} {kind : OfferKind} {target : Speed}

theorem State.takeOffer_wrongState (h : s.life.state ≠ .member) : s.takeOffer kind target = (s, .wrongState, []) := if_pos h

theorem State.takeOffer_busy (h : s.life.state = .member) (ho : s.agreement.own ≠ none) : s.takeOffer kind target = (s, .busy, []) :=
  (if_neg (not_not.2 h)).trans (if_pos (Option.isSome_iff_ne_none.2 ho))

theorem State.takeOffer_checked (h : s.life.state = .member) (ho : s.agreement.own = none) {why : Reason}
    (hc : s.offerCheck kind target none s.own = some why) : s.takeOffer kind target = (s, why.result, []) := by
  simp [State.takeOffer, h, ho, hc]

theorem State.takeOffer_queued (h : s.life.state = .member) (ho : s.agreement.own = none)
    (hc : s.offerCheck kind target none s.own = none) : s.takeOffer kind target =
      ({ s with agreement := { s.agreement with
          own := some { serial := s.agreement.serial + 1, kind := kind, target := target, phase := .queued }
          serial := s.agreement.serial + 1 } }, .ok, [s.agreement.serial + 1]) := by
  simp [State.takeOffer, h, ho, hc]

end

/-! ## WITHDRAW_OFFER (Table 2-4) -/

section
variable {s : State} {e : OwnEntry}

theorem State.withdrawOffer_none (h : s.agreement.own = none) : s.withdrawOffer = (s, .wrongState, []) := by
  simp [State.withdrawOffer, State.withdrawOwn, h]

theorem State.withdrawOffer_queued (h : s.agreement.own = some e) (hp : e.phase = .queued) : s.withdrawOffer =
    ({ s with agreement := { s.agreement with own := none }
              notices := s.noticesAfter [offerResultNotice .originWithdrew e.serial 0 0] }, .ok, []) := by
  simp only [State.withdrawOffer, State.withdrawOwn, h, hp]
  rfl

theorem State.withdrawOffer_offered {b : Ballot} (h : s.agreement.own = some e) (hp : e.phase = .offered b) : s.withdrawOffer =
    ({ s with agreement := { s.agreement with own := some { e with phase := .withdrawn b .originWithdrew 0 } }
              notices := s.noticesAfter [offerResultNotice .originWithdrew e.serial 0 0] }, .ok, []) := by
  simp only [State.withdrawOffer, State.withdrawOwn, h, hp]
  rfl

theorem State.withdrawOffer_committed {b : Ballot} {effective : Cycle} {n : Nat} (h : s.agreement.own = some e)
    (hp : e.phase = .committed b effective n) : s.withdrawOffer = (s, .tooLate, []) := by
  simp only [State.withdrawOffer, State.withdrawOwn, h, hp]

theorem State.withdrawOffer_withdrawn {b : Ballot} {why : WithdrawReason} {n : Nat} (h : s.agreement.own = some e)
    (hp : e.phase = .withdrawn b why n) : s.withdrawOffer = (s, .wrongState, []) := by
  simp only [State.withdrawOffer, State.withdrawOwn, h, hp]

end

/-- A request whose owner changes the table and the notices alone. -/
theorem State.takeRequest_agreement {s : State} {kind : Byte} {owner : Owner} {g : Agreement} {notices : NoticeUnit} {result : Result}
    {body : List Byte} (h : s.takesTransaction = true)
    (ho : owner s.deselected = ({ s.deselected with agreement := g, notices := notices }, result, body)) :
    s.takeRequest kind owner = { s.answered kind result body with agreement := g, notices := notices } := by
  rw [State.takeRequest_taken kind owner h, ho]; rfl

/-- Settles O20, by the tests of R26 in their order and by the phases of Table 2-4. -/
theorem offerRequestsActOnTheOwnEntry : Obligations.OfferRequestsActOnTheOwnEntry := by
  refine ⟨fun s target kind ht => ?_, fun s ht => ?_⟩
  · intro c code
    have hexec : exec c s = .next (s.takeRequest code fun t => t.takeOffer kind target) := by
      cases kind <;> rfl
    rw [hexec]
    refine ⟨fun hl => ?_, fun hl ho => ?_, fun hl ho why hc => ?_, fun hl ho hc => ?_⟩
    · rw [State.takeRequest_unchanged ht (State.takeOffer_wrongState (s := s.deselected) hl)]
    · rw [State.takeRequest_unchanged ht (State.takeOffer_busy (s := s.deselected) hl ho)]
    · rw [State.takeRequest_unchanged ht (State.takeOffer_checked (s := s.deselected) hl ho hc)]
    · rw [State.takeRequest_agreement ht (State.takeOffer_queued (s := s.deselected) hl ho hc)]
      rfl
  · rw [exec_withdrawOffer]
    refine ⟨fun ho => ?_, fun e ho => ⟨fun hp => ?_, fun b hp => ?_, fun b effective n hp => ?_, fun b why n hp => ?_⟩⟩
    · rw [State.takeRequest_unchanged ht (State.withdrawOffer_none (s := s.deselected) ho)]
    · rw [State.takeRequest_agreement ht (State.withdrawOffer_queued (s := s.deselected) ho hp)]
      rfl
    · rw [State.takeRequest_agreement ht (State.withdrawOffer_offered (s := s.deselected) ho hp)]
      rfl
    · rw [State.takeRequest_unchanged ht (State.withdrawOffer_committed (s := s.deselected) ho hp)]
    · rw [State.takeRequest_unchanged ht (State.withdrawOffer_withdrawn (s := s.deselected) ho hp)]

end Sys2Proof.Machine
end

section
/-! PROOFS. JOIN and LEAVE (R92, R104, Table 5-5): each by the station state that the request finds. -/

namespace Sys2Proof.Machine
open Sys2Proof

/-! ## JOIN (R92) -/

section
variable {s : State}

theorem State.join_listening (h : s.life.state = .idle ∨ s.life.state = .isolated) : s.join = (s.startListening, .ok, []) := if_pos h

theorem State.join_refused (h : s.life.state ≠ .idle ∧ s.life.state ≠ .isolated) : s.join = (s, .wrongState, []) :=
  if_neg (not_or.2 h)

theorem State.startListening_eq (s : State) : s.startListening = { s with
    life := { s.life with
      state := .listening, isolation := none, listenTimer := some (32 * s.cfg.slotLength.toNat), mismatchReported := 0 }
    bus := { s.bus with collisions := 0 }
    follower := { s.follower with held := none }
    notices := s.noticesAfter [stationStateNotice .listening s.life.state] } := rfl

/-! ## LEAVE (Table 5-5) -/

theorem State.leave_listening (h : s.life.state = .listening) : s.leave = (s.stopListening none, .ok, []) := by
  simp only [State.leave, h]

theorem State.leave_joining (h : s.life.state = .joining) : s.leave = (s.goSilent .idle s.life.isolation none, .ok, []) := by
  simp only [State.leave, h]

theorem State.leave_member (h : s.life.state = .member) (hr : s.reference.record.ramp = .stopped) :
    s.leave = (s.startLeaving, .ok, []) := by
  simp only [State.leave, h, hr, if_true]

theorem State.leave_refused (h : (s.life.state = .member ∧ s.reference.record.ramp ≠ .stopped) ∨ s.life.state = .unconfigured ∨
    s.life.state = .idle ∨ s.life.state = .leaving ∨ s.life.state = .isolated) : s.leave = (s, .wrongState, []) := by
  rcases h with ⟨h, hr⟩ | h | h | h | h
  · simp only [State.leave, h, if_neg hr]
  all_goals simp only [State.leave, h]

/-- The own entry set to what it is. -/
theorem State.setOwnEntry_self {e : Option OwnEntry} (h : s.agreement.own = e) : s.setOwnEntry e = s := by
  subst h; rfl

/-- What LEAVE leaves of the own entry, and its notice (R36). -/
theorem State.leaveOwn_eq (s : State) : s.leaveOwn = { s with
    agreement := { s.agreement with own := (leavingEntry s.agreement.own).1 }
    notices := s.noticesAfter (leavingEntry s.agreement.own).2 } := by
  unfold State.leaveOwn leavingEntry
  cases h : s.agreement.own with
  | none => exact (State.setOwnEntry_self h).symm
  | some e =>
    cases hp : e.phase with
    | queued => simp only [hp]; rfl
    | offered b => simp only [hp]; rfl
    | committed b effective n => simp only [hp]; exact (State.setOwnEntry_self h).symm
    | withdrawn b why n => simp only [hp]; exact (State.setOwnEntry_self h).symm

/-- The blocks that the change from MEMBER to LEAVING leaves, but for the own entry and the notices (R105). -/
def State.departing (s : State) : State := { s with
  life := { s.life with
    state := .leaving, listenTimer := none, exclusion := 0, joiningSince := none, admitting := none, memberHeard := false,
    ownSeen := false, firstSet := none, islandReported := 0, leavingFrames := 0 }
  reference := s.reference.exited
  claims := { s.claims with view := Vector.replicate 16 none, runPermit := false }
  follower := Follower.idle s.follower.record.cycle
  port := s.port.countCleared
  roster := { s.roster with entries := s.roster.entries.map fun e => { e with admissionDue := none } } }

/-- The change from MEMBER to LEAVING, whole (R36, R105). -/
theorem State.startLeaving_eq (s : State) : s.startLeaving = { s.departing with
    agreement := { s.agreement with own := (leavingEntry s.agreement.own).1 }
    notices := s.noticesAfter (stationStateNotice .leaving s.life.state :: (leavingEntry s.agreement.own).2) } := by
  have hs : s.startLeaving = (s.departing.postStationState s.life.state).leaveOwn := rfl
  rw [hs, State.leaveOwn_eq, State.noticesAfter_cons, State.noticesAfter_congr
    (s := { s with notices := s.noticesAfter [stationStateNotice .leaving s.life.state] })
    (t := s.departing.postStationState s.life.state) rfl rfl rfl]
  rfl

end

/-- A change of kind (a) does not read or show the transaction in progress. -/
theorem SilentExit.of_transaction {s t : State} {p q : LocalPort} (h : SilentExit { s with port := p } t) :
    SilentExit s { t with port := q } :=
  ⟨h.reference, h.slots, h.bus, h.assembled, h.roster, h.agreement, h.claims, h.follower, h.counts, h.joining, h.kept⟩

/-- A request whose owner changes the state. -/
theorem State.takeRequest_answers {s u : State} {kind : Byte} {owner : Owner} {result : Result} {body : List Byte}
    (h : s.takesTransaction = true) (ho : owner s.deselected = (u, result, body)) :
    s.takeRequest kind owner = u.beginProcessing kind (some (result, body)) := by
  rw [State.takeRequest_taken kind owner h, ho]

/-- Settles O16, by the station state. -/
theorem joinAndLeaveActByState : Obligations.JoinAndLeaveActByState := by
  refine ⟨fun s ht => ⟨fun hl => ?_, fun hl => ?_⟩, fun s ht => ⟨fun hl => ?_, fun hl => ?_, fun hl hr => ?_, fun h => ?_⟩⟩
  · rw [exec_join, State.takeRequest_answers ht (State.join_listening (s := s.deselected) hl), State.startListening_eq]
    rfl
  · rw [exec_join, State.takeRequest_unchanged ht (State.join_refused (s := s.deselected) hl)]
  · rw [exec_leave, State.takeRequest_answers ht (State.leave_listening (s := s.deselected) hl), State.stopListening_eq,
      show s.deselected.life.state = .listening from hl]
    rfl
  · obtain ⟨hstate, hcause, htimer, hport, hnotices⟩ := State.goSilent_change s.deselected .idle s.life.isolation none
    refine ⟨(s.deselected.goSilent .idle s.life.isolation none).beginProcessing 0x03 (some (.ok, [])), ?_,
      SilentExit.of_transaction (State.goSilent_exit s.deselected .idle s.life.isolation none), hstate, htimer, hcause, ?_, ?_⟩
    · rw [exec_leave, State.takeRequest_answers ht (State.leave_joining (s := s.deselected) hl)]
      rfl
    · rw [State.beginProcessing, hport, (State.goSilent_exit s.deselected .idle s.life.isolation none).slots]
      rfl
    · rw [← State.noticesAfter_congr (s := s.atCycle 0) (t := s.deselected.atCycle 0) rfl rfl rfl, ← hl]
      exact hnotices
  · rw [exec_leave, State.takeRequest_answers ht (State.leave_member (s := s.deselected) hl hr), State.startLeaving_eq,
      State.noticesAfter_congr (s := s) (t := s.deselected) rfl rfl rfl, show s.deselected.life.state = .member from hl]
    rfl
  · rw [exec_leave, State.takeRequest_unchanged ht (State.leave_refused (s := s.deselected) h)]

end Sys2Proof.Machine
end

section
/-! PROOFS. The limits of entries (R32, R33, R43), of the lag counts (R145) and of the report-miss count (R148): each at its limit and off it. -/

namespace Sys2Proof.Machine
open Sys2Proof

section
variable {s : State}

/-- The deadline reached, said of the own entry (R32). -/
theorem State.ownExpired_eq_some_iff (s : State) (e : OwnEntry) (b : Ballot) : s.ownExpired = some (e, b) ↔
    s.agreement.own = some e ∧ e.phase = .offered b ∧ s.slots.cycle = b.firstOffered + s.offerDeadline := by
  unfold State.ownExpired
  cases s.agreement.own with
  | none => simp
  | some x =>
    simp only [Option.some.injEq]
    constructor
    · intro h
      split at h
      next hp => exact nomatch h
      next b' hp =>
        split at h
        next hc => cases h; exact ⟨rfl, hp, hc⟩
        next hc => exact nomatch h
      next hp => exact nomatch h
      next hp => exact nomatch h
    · rintro ⟨rfl, hp, hc⟩
      simp only [hp, if_pos hc]

theorem State.expireOffer_reached {e : OwnEntry} {b : Ballot} (h : s.ownExpired = some (e, b)) : s.expireOffer = { s with
    agreement := { s.agreement with own := some { e with phase := .withdrawn b .expired 0 } }
    notices := s.noticesAfter [offerResultNotice .expired e.serial 0 0] } := by
  rw [State.expireOffer, h]; rfl

theorem State.expireOffer_before (h : s.ownExpired = none) : s.expireOffer = s := by
  rw [State.expireOffer, h]

theorem OwnEntry.withdrawalDone_iff (e : OwnEntry) : e.withdrawalDone = true ↔ ∃ b why, e.phase = .withdrawn b why 2 := by
  unfold OwnEntry.withdrawalDone
  cases e.phase <;> simp [Config.announcementLimit]

theorem State.removeWithdrawn_done (h : s.agreement.own.any (·.withdrawalDone) = true) :
    s.removeWithdrawn = { s with agreement := { s.agreement with own := none } } := if_pos h

theorem State.removeWithdrawn_before (h : ¬ s.agreement.own.any (·.withdrawalDone) = true) : s.removeWithdrawn = s := if_neg h

/-- The end of the grace period, said of the entry (R43). -/
theorem State.graceOver_iff (s : State) (e : OtherEntry) : s.graceOver e = true ↔
    e.effective = none ∧ s.slots.cycle = e.firstOffered + s.offerDeadline + 2 := by
  simp [State.graceOver]

theorem State.endGrace_transmits (h : s.life.state.transmits = true) : s.endGrace = s.removeGraceOver := if_pos h

theorem State.endGrace_silent (h : s.life.state.transmits = false) : s.endGrace = s := if_neg (by simp [h])

/-- A lag count at N, said of the follower (Table 8-4). -/
theorem lagDue_iff (n : Nat) (f : Follower) : lagDue n f = true ↔
    1 ≤ n ∧ (f.lagHold = false ∧ f.overCount = n ∨ f.lagHold = true ∧ f.underCount = n) := by
  simp [lagDue, Nat.one_le_iff_ne_zero, Nat.pos_iff_ne_zero]

theorem State.takeLag_due (h : lagDue s.cfg.lagCount.toNat s.follower = true) : s.takeLag = { s with
    follower := { s.follower with
      lagHold := !s.follower.lagHold, overCount := 0, underCount := 0
      record := { s.follower.record with lagHold := !s.follower.lagHold } } } := by
  rw [State.takeLag, lagTake, if_pos h]

theorem State.takeLag_before (h : ¬ lagDue s.cfg.lagCount.toNat s.follower = true) : s.takeLag = s := by
  rw [State.takeLag, lagTake, if_neg h]

theorem State.takeSilent_due (h : s.port.silentDue = true) : s.takeSilent = { s with
    port := { s.port with silentDue := false }
    claims := (s.raise .localSilent).claims
    notices := (s.raise .localSilent).notices } := by
  rw [State.takeSilent, if_pos h, State.raise_port, s.raise_eq]

theorem State.takeSilent_before (h : s.port.silentDue = false) : s.takeSilent = s := if_neg (by simp [h])

end

/-- Settles O21, each limit by its condition. -/
theorem limitsAreTaken : Obligations.LimitsAreTaken := by
  refine ⟨fun s hr => ⟨fun e b he hp hc => ?_, fun h => ?_, fun e b why he hp => ?_, fun h => ?_, fun ht => ?_, fun ht => ?_⟩,
    fun s hr => ?lag⟩
  case lag =>
    intro n f
    refine ⟨fun hn hl hc => ?_, fun hn hl hc => ?_, fun h => ?_, fun hd => ?_, fun hd => ?_⟩
    · rw [exec_lagHold, outOfReset_free hr, State.takeLag_due ((lagDue_iff n f).2 ⟨hn, .inl ⟨hl, hc⟩⟩),
        show s.follower.lagHold = false from hl]
      rfl
    · rw [exec_lagHold, outOfReset_free hr, State.takeLag_due ((lagDue_iff n f).2 ⟨hn, .inr ⟨hl, hc⟩⟩),
        show s.follower.lagHold = true from hl]
      rfl
    · have hbefore : ¬ lagDue n f = true := by
        rw [lagDue_iff]
        rintro ⟨hn, hlag⟩
        rcases h with h | ⟨hl, hc⟩ | ⟨hl, hc⟩
        · omega
        · simp [hl, hc] at hlag
        · simp [hl, hc] at hlag
      rw [exec_lagHold, outOfReset_free hr, State.takeLag_before hbefore]
    · rw [exec_localSilent, outOfReset_free hr, State.takeSilent_due hd]
    · rw [exec_localSilent, outOfReset_free hr, State.takeSilent_before hd]
  · rw [exec_expired, outOfReset_free hr, State.expireOffer_reached ((s.ownExpired_eq_some_iff e b).2 ⟨he, hp, hc⟩)]
  · have hnone : s.ownExpired = none := Option.eq_none_iff_forall_ne_some.2 fun ⟨e, b⟩ hx =>
      have ⟨he, hp, hc⟩ := (s.ownExpired_eq_some_iff e b).1 hx
      h e b he hp hc
    rw [exec_expired, outOfReset_free hr, State.expireOffer_before hnone]
  · have hdone : s.agreement.own.any (·.withdrawalDone) = true := by
      rw [he, Option.any_some, OwnEntry.withdrawalDone_iff]; exact ⟨b, why, hp⟩
    rw [exec_withdrawnEntryRemoved, outOfReset_free hr, State.removeWithdrawn_done hdone]
  · have hbefore : ¬ s.agreement.own.any (·.withdrawalDone) = true := by
      rw [Option.any_eq_true]
      rintro ⟨e, he, hx⟩
      obtain ⟨b, why, hp⟩ := e.withdrawalDone_iff.1 hx
      exact h e b why he hp
    rw [exec_withdrawnEntryRemoved, outOfReset_free hr, State.removeWithdrawn_before hbefore]
  · refine ⟨s.removeGraceOver, by rw [exec_gracePeriod, outOfReset_free hr, State.endGrace_transmits ht], rfl,
      List.filter_sublist, fun e => ?_⟩
    rw [State.removeGraceOver, List.mem_filter, Bool.not_eq_true', ← Bool.not_eq_true, State.graceOver_iff]
    rfl
  · rw [exec_gracePeriod, outOfReset_free hr, State.endGrace_silent ht]

end Sys2Proof.Machine
end

section
/-! PROOFS. The agreement part of a member's frame (R29, R40 to R43): the offer, the decision and the responses, each by what the table holds. -/

namespace Sys2Proof.Machine
open Sys2Proof

section
variable {s : State}

/-! ## The entry of another origin -/

/-- The serial of station k is held where its entry has it. -/
theorem Agreement.holds_iff (g : Agreement) (k : Station) (serial : Byte) :
    (g.other? k).any (·.serial == serial) = true ↔ ∃ e, g.others.find? (fun e => e.origin == k) = some e ∧ e.serial = serial := by
  simp [Agreement.other?, Option.any_eq_true]

/-- A table without an entry of station k is what is left when station k's entry is taken out. -/
theorem Agreement.filter_of_other?_none {g : Agreement} {k : Station} (h : g.other? k = none) :
    g.others.filter (fun e => e.origin != k) = g.others :=
  List.filter_eq_self.2 fun e he => by simpa using List.find?_eq_none.1 h e he

/-! ## The offer (R40) -/

theorem State.recordOffer_held {k : Station} {o : OfferPart} (h : (s.agreement.other? k).any (·.serial == o.serial) = true) :
    s.recordOffer k o = s := by
  obtain ⟨e, he, hs⟩ := Option.any_eq_true _ _ |>.1 h
  unfold State.recordOffer
  simp only [he]
  exact if_pos (eq_of_beq hs)

theorem State.recordOffer_new {k : Station} {o : OfferPart} (h : ¬ (s.agreement.other? k).any (·.serial == o.serial) = true) :
    s.recordOffer k o = { s with agreement := { s.agreement with others := s.agreement.others.filter (fun e => e.origin != k) ++
      [{ origin := k, serial := o.serial, kind := o.kind, target := o.target, firstOffered := o.firstOffered, voters := o.voters,
         verdict := none, effective := none }] } } := by
  unfold State.recordOffer
  cases he : s.agreement.other? k with
  | none => rw [Agreement.filter_of_other?_none he]
  | some e =>
    have hs : ¬ e.serial = o.serial := by simpa [he] using h
    exact if_neg hs

/-! ## The decision (R41 to R43) -/

section
variable {k : Station} {d : DecisionPart}

theorem State.takeDecision_commit (h : (s.agreement.other? k).any (·.serial == d.serial) = true) (hc : d.outcome = .commit) :
    s.takeDecision k d = s.updateOther k fun e => { e with effective := some (e.effective.getD d.effective) } := by
  simp only [State.takeDecision, hc, h, if_true]

theorem State.takeDecision_withdraw (h : (s.agreement.other? k).any (·.serial == d.serial) = true) (hc : d.outcome ≠ .commit) :
    s.takeDecision k d = s.removeOther k := by
  cases ho : d.outcome with
  | commit => exact absurd ho hc
  | withdraw why => simp only [State.takeDecision, ho, h, if_true]

theorem State.takeDecision_missed (h : ¬ (s.agreement.other? k).any (·.serial == d.serial) = true) (hc : d.outcome = .commit)
    (hm : s.life.state = .member) : s.takeDecision k d = s.raise .missedChange := by
  simp only [State.takeDecision, hc, if_neg h, hm, if_true]

theorem State.takeDecision_unknown (h : ¬ (s.agreement.other? k).any (·.serial == d.serial) = true)
    (hc : d.outcome ≠ .commit ∨ s.life.state ≠ .member) : s.takeDecision k d = s := by
  cases ho : d.outcome with
  | commit => simp only [State.takeDecision, ho, if_neg h, if_neg (hc.resolve_left (· ho))]
  | withdraw why => simp only [State.takeDecision, ho, if_neg h]

end

/-! ## The parts of the frame -/

section
variable {f : Frame}

theorem State.takeProposalParts_none (ho : f.offer = none) (hd : f.decision = none) : s.takeProposalParts f = s := by
  simp only [State.takeProposalParts, ho, hd]

theorem State.takeProposalParts_offer {o : OfferPart} (ho : f.offer = some o) (hd : f.decision = none) (hf : f.state = .member) :
    s.takeProposalParts f = if s.life.state ≠ .leaving then s.recordOffer f.station o else s := by
  simp only [State.takeProposalParts, ho, hd, hf, true_and]

theorem State.takeProposalParts_decision {d : DecisionPart} (ho : f.offer = none) (hd : f.decision = some d) :
    s.takeProposalParts f = s.takeDecision f.station d := by
  simp only [State.takeProposalParts, ho, hd]

/-- A LEAVING station takes no offer. -/
theorem State.takeProposalParts_leaving (h : s.life.state = .leaving) :
    s.takeProposalParts f = s.takeProposalParts { f with offer := none } := by
  unfold State.takeProposalParts
  cases f.offer <;> simp [h]

theorem State.takeAgreementPart_member (h : s.life.state = .member) :
    s.takeAgreementPart f = (s.takeProposalParts f).collectVerdicts f.station f.responses :=
  if_pos (by simpa using h)

theorem State.takeAgreementPart_other (h : s.life.state ≠ .member) : s.takeAgreementPart f = s.takeProposalParts f :=
  if_neg (by simpa using h)

end

/-! ## The responses (R29) -/

theorem Ballot.collect_ignored {b : Ballot} {k : Station}
    (h : ¬ (contains b.voters k = true ∧ contains b.acks k = false ∧ ∀ why, b.refusal ≠ some (k, why))) (v : Verdict) :
    b.collect k v = b := by
  refine if_pos ?_
  by_contra hn
  refine h ⟨?_, ?_, fun why hw => hn ?_⟩
  · simp_all
  · simp_all
  · simp [hw]

theorem Ballot.collect_counted {b : Ballot} {k : Station} (hv : contains b.voters k = true) (ha : contains b.acks k = false)
    (hr : ∀ why, b.refusal ≠ some (k, why)) :
    b.collect k .ack = { b with acks := setInsert b.acks k } ∧
      ∀ why, b.collect k (.refuse why) = { b with refusal := some (b.refusal.getD (k, why)) } := by
  have hc : ¬ (!contains b.voters k || contains b.acks k || b.refusal.any (·.1 == k)) = true := by
    have hn : b.refusal.any (·.1 == k) = false := by
      rw [← Bool.not_eq_true, Option.any_eq_true]
      rintro ⟨⟨j, why⟩, hw, hj⟩
      exact hr why (hw.trans (congrArg (fun x => some (x, why)) (eq_of_beq hj)))
    simp [hv, ha, hn]
  exact ⟨if_neg hc, fun why => if_neg hc⟩

/-- Without an own OFFERED entry the responses are nobody's. -/
theorem State.collectVerdicts_none {k : Station} {responses : List ResponsePart}
    (h : ∀ e b, s.agreement.own = some e → e.phase ≠ .offered b) : s.collectVerdicts k responses = s := by
  unfold State.collectVerdicts
  cases ho : s.agreement.own with
  | none => rfl
  | some e =>
    cases hp : e.phase with
    | offered b => exact absurd hp (h e b ho)
    | queued => simp only [hp]
    | committed b effective n => simp only [hp]
    | withdrawn b why n => simp only [hp]

/-- The responses that name the own entry of a serial (R29). -/
def State.responsesRead (s : State) (serial : Byte) (responses : List ResponsePart) : List ResponsePart :=
  responses.filter fun r => r.origin == s.own && r.serial == serial

theorem State.responsesRead_none {serial : Byte} {responses : List ResponsePart}
    (h : ∀ r ∈ responses, ¬ (r.origin = s.own ∧ r.serial = serial)) : s.responsesRead serial responses = [] :=
  List.filter_eq_nil_iff.2 fun x hx => by simpa using h x hx

theorem State.responsesRead_one {serial : Byte} {before after : List ResponsePart} {r : ResponsePart}
    (hr : r.origin = s.own ∧ r.serial = serial) (h : ∀ x ∈ before ++ after, ¬ (x.origin = s.own ∧ x.serial = serial)) :
    s.responsesRead serial (before ++ r :: after) = [r] := by
  have hbefore := State.responsesRead_none fun x hx => h x (List.mem_append_left _ hx)
  have hafter := State.responsesRead_none fun x hx => h x (List.mem_append_right _ hx)
  rw [State.responsesRead] at hbefore hafter ⊢
  rw [List.filter_append, hbefore, List.filter_cons_of_pos (by simpa using hr), hafter, List.nil_append]

/-- The own OFFERED entry collects the responses that name it. -/
theorem State.collectVerdicts_offered {k : Station} {responses : List ResponsePart} {e : OwnEntry} {b : Ballot}
    (ho : s.agreement.own = some e) (hp : e.phase = .offered b) :
    s.collectVerdicts k responses = s.setOwnEntry
      (some { e with phase := .offered ((s.responsesRead e.serial responses).foldl (fun b r => b.collect k r.verdict) b) }) := by
  unfold State.collectVerdicts
  simp only [ho, hp]
  rfl

/-- Responses that do not count leave the ballot. -/
theorem Ballot.collects_ignored {b : Ballot} {k : Station}
    (h : ¬ (contains b.voters k = true ∧ contains b.acks k = false ∧ ∀ why, b.refusal ≠ some (k, why))) (l : List ResponsePart) :
    l.foldl (fun b r => b.collect k r.verdict) b = b := by
  induction l with
  | nil => rfl
  | cons r l ih => rw [List.foldl_cons, Ballot.collect_ignored h, ih]

end

/-- Settles O22, by the part of the frame and by what the table holds. -/
theorem theAgreementPartIsTaken : Obligations.TheAgreementPartIsTaken := by
  refine ⟨fun s f => ⟨State.takeAgreementPart_member, fun h => ?_⟩, fun s f => ?parts, fun s k responses => ?responses⟩
  · rw [State.takeAgreementPart_other (by simp [h]), State.takeProposalParts_leaving h]
  case parts =>
    intro k others held withOthers
    have hheld (serial : Byte) : held serial ↔ (s.agreement.other? k).any (·.serial == serial) = true :=
      (s.agreement.holds_iff k serial).symm
    refine ⟨State.takeProposalParts_none, fun o ho hd hf => ⟨fun h => ?_, fun hn hl => ?_⟩,
      fun d ho hd => ⟨fun h hc => ?_, fun h hc => ?_, fun h hc hm => ?_, fun h hc => ?_⟩⟩
    · rw [State.takeProposalParts_offer ho hd hf]
      rcases h with h | h
      · rw [State.recordOffer_held ((hheld _).1 h), ite_self]
      · exact if_neg (not_not.2 h)
    · rw [State.takeProposalParts_offer ho hd hf, if_pos hl, State.recordOffer_new (mt (hheld _).2 hn)]
    · rw [State.takeProposalParts_decision ho hd, State.takeDecision_commit ((hheld _).1 h) hc]; rfl
    · rw [State.takeProposalParts_decision ho hd, State.takeDecision_withdraw ((hheld _).1 h) hc]; rfl
    · rw [State.takeProposalParts_decision ho hd, State.takeDecision_missed (mt (hheld _).2 h) hc hm]
    · rw [State.takeProposalParts_decision ho hd, State.takeDecision_unknown (mt (hheld _).2 h) hc]
  case responses =>
    refine ⟨State.collectVerdicts_none, fun e b ho hp => ?_⟩
    intro read counts withBallot
    have hself : s.setOwnEntry (some { e with phase := .offered b }) = s :=
      State.setOwnEntry_self (by rw [ho, ← hp])
    refine ⟨fun h => ?_, fun before r after hr hread hothers ⟨hv, ha, hb⟩ => ?_⟩
    · rw [State.collectVerdicts_offered ho hp]
      rcases h with h | h
      · rw [State.responsesRead_none h, List.foldl_nil, hself]
      · rw [Ballot.collects_ignored h, hself]
    · obtain ⟨hack, hrefuse⟩ := Ballot.collect_counted hv ha hb
      rw [State.collectVerdicts_offered ho hp, hr, State.responsesRead_one hread hothers, List.foldl_cons, List.foldl_nil]
      exact ⟨fun hverdict => by rw [hverdict, hack]; rfl, fun why hverdict => by rw [hverdict, hrefuse]; rfl⟩

end Sys2Proof.Machine
end

section
/-! PROOFS. Removal, MISSED_LIMIT, admission and departure (R77 to R79, R82 to R84): the rules of the roster's entries, then the obligations. -/

namespace Sys2Proof.Machine
open Sys2Proof

/-! ## The member set when one entry changes (R69) -/

/-- The set follows an entry that is written, and every other station keeps its place in it. -/
theorem State.isMember_of_entry {s t : State} {k : Station} {e : RosterEntry} (hk : k ≠ s.own)
    (hr : t.roster.entries = s.roster.entries.set k e) (hs : t.store = s.store) (hl : t.life.state = s.life.state) (j : Station) :
    t.isMember j = if j = k then e.state == .member else s.isMember j := by
  have hown : t.own = s.own := congrArg ConfigStore.number hs
  simp only [State.isMember, State.rosterEntry, hown, hl, hr]
  by_cases hj : j = k
  · simp [hj, hk]
  · have hne : k.val ≠ j.val := fun h => hj (Fin.ext h.symm)
    simp [hj, hne]

/-- A station whose entry leaves MEMBER leaves the set. -/
theorem State.isMember_dropped {s t : State} {k : Station} {e : RosterEntry} (hk : k ≠ s.own)
    (hr : t.roster.entries = s.roster.entries.set k e) (he : e.state ≠ .member) (hs : t.store = s.store)
    (hl : t.life.state = s.life.state) (j : Station) : t.isMember j = (s.isMember j && decide (j ≠ k)) := by
  rw [State.isMember_of_entry hk hr hs hl]
  by_cases hj : j = k <;> simp [hj, he]

theorem removedEntry_state (reason : RemovalReason) (e : RosterEntry) : (removedEntry reason e).state ≠ .member := by
  cases reason <;> simp [removedEntry, RosterEntry.reset]

/-! ## A raise by what it reads -/

/-- A raise reads the claim, the notices, the cycle count and the configuration store. -/
theorem State.raise_congr {s t : State} (cause : StopCause) (hc : t.claims.stop = s.claims.stop) (hn : t.notices = s.notices)
    (hcycle : t.slots.cycle = s.slots.cycle) (hs : t.store = s.store) :
    (t.raise cause).claims.stop = (s.raise cause).claims.stop ∧ (t.raise cause).notices = (s.raise cause).notices := by
  have hown : t.own = s.own := congrArg ConfigStore.number hs
  have hafter := State.noticesAfter_congr hn hcycle hs
  cases hstop : s.claims.stop with
  | none => simp [State.raise_clear cause hstop, State.raise_clear cause (hc.trans hstop), hown, hafter]
  | some k =>
    rw [State.raise_set cause hstop, State.raise_set cause (hc.trans hstop), hown, hafter]
    split
    · exact ⟨hc, hn⟩
    · exact ⟨rfl, rfl⟩

/-- A raise's claim does not depend on the notices. -/
theorem State.raise_stop_congr {s t : State} (cause : StopCause) (hc : t.claims.stop = s.claims.stop) :
    (t.raise cause).claims.stop = (s.raise cause).claims.stop := by
  cases hstop : s.claims.stop with
  | none => simp [State.raise_clear cause hstop, State.raise_clear cause (hc.trans hstop)]
  | some k =>
    rw [State.raise_set cause hstop, State.raise_set cause (hc.trans hstop)]
    split
    · exact hc
    · rfl

/-! ## A removal by its cases (R78) -/

section
variable {s : State} {k : Station} {reason : RemovalReason}

/-- Where no MEMBER's line runs a removal raises nothing. -/
theorem State.removeMember_quiet (h : s.life.state ≠ .member ∨ s.reference.record.ramp = .stopped) :
    s.removeMember k reason = s.removed k reason := by
  rw [State.removeMember_eq]
  exact if_neg fun ⟨hm, hr⟩ => h.elim (· hm) ((RampState.running_iff _).1 hr)

/-- Where a MEMBER's line runs a removal raises MEMBER_LOST. -/
theorem State.removeMember_lost (hm : s.life.state = .member) (hr : s.reference.record.ramp ≠ .stopped) :
    s.removeMember k reason = (s.removed k reason).raise .memberLost := by
  rw [State.removeMember_eq]
  exact if_pos ⟨hm, (RampState.running_iff _).2 hr⟩

/-- A removal moves the roster, the table, the claims and the notices. -/
theorem State.removeMember_blocks (s : State) (k : Station) (reason : RemovalReason) : s.removeMember k reason = { s with
    roster := (s.removed k reason).roster
    agreement := s.agreement.without k
    claims := (s.removeMember k reason).claims
    notices := (s.removeMember k reason).notices } := by
  rw [State.removeMember_eq]
  split
  · rw [State.raise_eq]; rfl
  · rfl

theorem State.removeMember_entries (s : State) (k : Station) (reason : RemovalReason) :
    (s.removeMember k reason).roster.entries = s.roster.entries.set k (removedEntry reason s.roster.entries[k]) := by
  rw [State.removeMember_blocks]; rfl

/-- The removed station is out of the set, and no other. -/
theorem State.removeMember_isMember (hk : k ≠ s.own) (j : Station) :
    (s.removeMember k reason).isMember j = (s.isMember j && decide (j ≠ k)) :=
  State.isMember_dropped hk (State.removeMember_entries ..) (removedEntry_state _ _) (by rw [State.removeMember_blocks])
    (by rw [State.removeMember_blocks]) j

/-- MEMBER_REMOVED shows the set as the removal leaves it. -/
theorem State.removed_notices (s : State) (k : Station) (reason : RemovalReason) : (s.removed k reason).notices =
    s.noticesAfter [(.memberRemoved, stationNumber k, reason.code, (s.removeMember k reason).memberSet)] := by
  have hset : (s.removeMember k reason).memberSet = (s.setEntry k (removedEntry reason s.roster.entries[k])).memberSet := by
    refine State.memberSet_congr ?_ ?_ ?_ <;> (rw [State.removeMember_blocks]; rfl)
  rw [hset]; rfl

/-- The table that a removal leaves (R45). -/
theorem State.removeMember_others (s : State) (k : Station) (reason : RemovalReason) :
    (s.removeMember k reason).agreement.others = s.agreement.others.filter fun e => decide (e.origin ≠ k) := by
  rw [State.removeMember_agreement]
  exact List.filter_congr fun e _ => by simp only [ne_eq, decide_not]; rfl

theorem State.removeMember_verdict (s : State) (k : Station) (reason : RemovalReason) :
    VerdictDropped k s.agreement.own (s.removeMember k reason).agreement.own := by
  rw [State.removeMember_agreement]; exact Agreement.without_own ..

theorem State.removeMember_serial (s : State) (k : Station) (reason : RemovalReason) :
    (s.removeMember k reason).agreement.serial = s.agreement.serial := by
  rw [State.removeMember_agreement]; rfl

/-- What a removal posts and raises where no MEMBER's line runs. -/
theorem State.removeMember_posts_quiet (h : s.life.state ≠ .member ∨ s.reference.record.ramp = .stopped) :
    (s.removeMember k reason).claims.stop = s.claims.stop ∧ (s.removeMember k reason).notices =
      s.noticesAfter [(.memberRemoved, stationNumber k, reason.code, (s.removeMember k reason).memberSet)] := by
  rw [← State.removed_notices, State.removeMember_quiet h]
  exact ⟨rfl, rfl⟩

/-- What a removal posts and raises where a MEMBER's line runs: MEMBER_LOST after MEMBER_REMOVED. -/
theorem State.removeMember_posts_lost (hm : s.life.state = .member) (hr : s.reference.record.ramp ≠ .stopped) :
    (s.removeMember k reason).claims.stop = (s.raise .memberLost).claims.stop ∧ (s.removeMember k reason).notices =
      (State.raise
        { s with
          notices := s.noticesAfter [(.memberRemoved, stationNumber k, reason.code, (s.removeMember k reason).memberSet)] }
        .memberLost).notices := by
  rw [← State.removed_notices, State.removeMember_lost hm hr]
  exact ⟨State.raise_stop_congr .memberLost rfl,
    (State.raise_congr (s := { s with notices := (s.removed k reason).notices }) (t := s.removed k reason) .memberLost rfl rfl rfl rfl).2⟩

end

/-! ## MISSED_LIMIT (R77) -/

section
variable {s : State} {k : Station}

theorem State.missedDue_iff (s : State) (k : Station) : (s.countsMissed && s.missedDue k) = true ↔
    (s.life.state = .member ∨ s.life.state = .leaving) ∧ k ≠ s.own ∧ s.roster.entries[k].state ≠ .absent ∧
      s.roster.entries[k].missed = s.cfg.missedLimit.toNat := by
  simp [State.countsMissed, State.missedDue, State.missedLimit, and_assoc]

theorem State.missedLimitEvent_below (h : ¬ (s.countsMissed && s.missedDue k) = true) : s.missedLimitEvent k = s := if_neg h

theorem State.missedLimitEvent_member (h : (s.countsMissed && s.missedDue k) = true) (he : s.roster.entries[k].state = .member) :
    s.missedLimitEvent k = s.removeMember k .missed := by
  rw [State.missedLimitEvent, if_pos h]; exact if_pos he

theorem State.missedLimitEvent_other (h : (s.countsMissed && s.missedDue k) = true) (he : s.roster.entries[k].state ≠ .member) :
    s.missedLimitEvent k = s.setEntry k (removedEntry .missed s.roster.entries[k]) := by
  rw [State.missedLimitEvent, if_pos h]; exact if_neg he

end

/-- Settles O46: below the limit, at it with another entry, and at it with a member. -/
theorem missedLimitMakesTheEntryAbsent : Obligations.MissedLimitMakesTheEntryAbsent := by
  intro s k hreset entry absent applies roster
  have hdue : applies ↔ (s.countsMissed && s.missedDue k) = true := (s.missedDue_iff k).symm
  refine ⟨fun h => ?_, fun h he => ?_, fun h he => ?_⟩
  · rw [exec_missedLimit, outOfReset_free hreset, State.missedLimitEvent_below (mt hdue.2 h)]
  · rw [exec_missedLimit, outOfReset_free hreset, State.missedLimitEvent_other (hdue.1 h) he]
    rfl
  · have hk : k ≠ s.own := h.2.1
    refine ⟨s.removeMember k .missed, ?_, State.removeMember_blocks s k .missed ▸ rfl, State.removeMember_isMember hk,
      State.removeMember_others .., State.removeMember_verdict .., State.removeMember_serial .., State.removeMember_view .., ?_⟩
    · rw [exec_missedLimit, outOfReset_free hreset, State.missedLimitEvent_member (hdue.1 h) he]
    intro removed
    refine ⟨fun hm hr => ?_, fun hq => State.removeMember_posts_quiet (hq.imp_left fun hl => by simp [hl])⟩
    obtain ⟨hstop, hnotices⟩ := State.removeMember_posts_lost (k := k) (reason := .missed) hm hr
    refine ⟨?_, fun hc => ?_, hstop, hnotices⟩
    · rw [hstop]; exact State.raise_isSome ..
    · rw [hstop, State.raise_clear _ hc]; rfl

/-! ## Admission (R84) -/

/-- STOP_CLAIM of an admission: the stop claim of the joining claims (R61, R62). -/
def admittedStop (k : Station) (e : RosterEntry) : List OwnNotice :=
  ((e.joiningClaims.bind (·.stop)).map fun x => (.stopClaim, stationNumber k, x.1.code, x.2)).toList

/-- The blocks of a state with station k admitted, but for a late stop's record. -/
def State.admitted (s : State) (k : Station) (late : Bool) : State := { s with
  roster := { s.roster with entries := s.roster.entries.set k { s.roster.entries[k] with state := .member, admissionDue := none } }
  claims := { s.claims with view := s.claims.view.set k (some (claimsAtAdmission s.roster.entries[k] s.slots.cycle)) }
  notices := s.noticesAfter ((.memberAdded, stationNumber k, flagByte late,
    (s.setEntry k { s.roster.entries[k] with state := .member, admissionDue := none }).memberSet) ::
      admittedStop k s.roster.entries[k]) }

theorem ahead_self (c : Cycle) : ahead c c = false := by simp [ahead]

/-- A record newly created has no stop claim. -/
theorem newHold_clear (hold : Bool) (e c : Cycle) : { newHold hold e c with stop := none } = newHold hold e c := by
  unfold newHold; split <;> rfl

theorem claimsAtAdmission_none {e : RosterEntry} (h : e.joiningClaims = none) (c : Cycle) :
    claimsAtAdmission e c = newHold false c c := by
  simp [claimsAtAdmission, h, newHold, ahead_self]

theorem claimsAtAdmission_some {e : RosterEntry} {j : JoiningClaims} (h : e.joiningClaims = some j) (c : Cycle) :
    claimsAtAdmission e c = { newHold j.hold j.holdEffective c with
      stop := j.stop.map fun x => { cause := x.1, effective := x.2, inForce := !ahead x.2 c : HeardStop } } := by
  rw [newHold_stop]
  simp only [claimsAtAdmission, h]

/-- A late stop moves the record alone. -/
theorem State.lateStop_eq (s : State) : s.lateStop = { s with reference := s.lateStop.reference } := by
  unfold State.lateStop; split <;> rfl

/-- A stop claim first heard moves the claim view, the notices and, by a late stop, the record. -/
theorem State.firstHeardStop_blocks (s : State) (k : Station) (r : ClaimRecord) (cause : StopCause) (e : Cycle) :
    s.firstHeardStop k r cause e = { s.stopNoted k r cause e with reference := (s.firstHeardStop k r cause e).reference } := by
  rw [State.firstHeardStop_eq]
  split
  · rfl
  · exact State.lateStop_eq _

section
variable {s : State} {k : Station} {late : Bool}

/-- The entry of station k admitted, and MEMBER_ADDED posted. -/
def State.added (s : State) (k : Station) (late : Bool) : State :=
  let t := s.setEntry k { s.roster.entries[k] with state := .member, admissionDue := none }
  t.post .memberAdded (stationNumber k) (flagByte late) t.memberSet

theorem State.admitStation_unclaimed (h : s.roster.entries[k].joiningClaims = none) :
    s.admitStation k late = (s.added k late).createRecord k none false s.slots.cycle := by
  unfold State.admitStation
  extract_lets e t₁ t₂
  rw [show e.joiningClaims = none from h]
  rfl

theorem State.admitStation_claimed {j : JoiningClaims} (h : s.roster.entries[k].joiningClaims = some j) :
    s.admitStation k late = (s.added k late).createRecord k j.stop j.hold j.holdEffective := by
  unfold State.admitStation
  extract_lets e t₁ t₂
  rw [show e.joiningClaims = some j from h]
  rfl

/-- An admission moves the roster, the claim view, the notices and, by a late stop, the record. -/
theorem State.admitStation_eq (s : State) (k : Station) (late : Bool) :
    s.admitStation k late = { s.admitted k late with reference := (s.admitStation k late).reference } := by
  unfold State.admitted admittedStop
  cases hj : s.roster.entries[k].joiningClaims with
  | none => rw [State.admitStation_unclaimed hj, claimsAtAdmission_none hj]; rfl
  | some j =>
    rw [State.admitStation_claimed hj, claimsAtAdmission_some hj]
    cases hs : j.stop with
    | none => simp only [Option.bind_some, hs, Option.map_none, newHold_clear]; rfl
    | some x =>
      simp only [State.createRecord, Option.bind_some, hs]
      rw [State.firstHeardStop_blocks]
      rfl

/-- The admitted station is in the set, and every other station keeps its place. -/
theorem State.admitStation_isMember (hk : k ≠ s.own) (j : Station) :
    (s.admitStation k late).isMember j = if j = k then true else s.isMember j :=
  State.isMember_of_entry hk (e := { s.roster.entries[k] with state := .member, admissionDue := none })
    (by rw [State.admitStation_eq]; rfl) (by rw [State.admitStation_eq]; rfl) (by rw [State.admitStation_eq]; rfl) j

/-- The notices of an admission: MEMBER_ADDED with the set after it, and the stop claim of the joining claims. -/
theorem State.admitStation_notices (s : State) (k : Station) (late : Bool) : (s.admitStation k late).notices =
    s.noticesAfter ((.memberAdded, stationNumber k, flagByte late, (s.admitStation k late).memberSet) ::
      admittedStop k s.roster.entries[k]) := by
  have hset : (s.admitStation k late).memberSet =
      (s.setEntry k { s.roster.entries[k] with state := .member, admissionDue := none }).memberSet := by
    refine State.memberSet_congr ?_ ?_ ?_ <;> (rw [State.admitStation_eq]; rfl)
  rw [hset, State.admitStation_eq]; rfl

theorem admittedStop_some {e : RosterEntry} {cause : StopCause} {effective : Cycle}
    (h : e.joiningClaims.bind (·.stop) = some (cause, effective)) :
    admittedStop k e = [(.stopClaim, stationNumber k, cause.code, effective)] := by
  rw [admittedStop, h]; rfl

theorem admittedStop_none {e : RosterEntry} (h : e.joiningClaims.bind (·.stop) = none) : admittedStop k e = [] := by
  rw [admittedStop, h]; rfl

theorem admittedStop_length (e : RosterEntry) : (admittedStop k e).length ≤ 1 := by
  unfold admittedStop
  cases e.joiningClaims.bind (·.stop) <;> simp

end

/-- A post that is not the last of a run stays in a queue that has room for the run. -/
theorem State.noticesAfter_queue (s : State) (posts : List OwnNotice) (h : s.notices.queue.length + posts.length ≤ 24) :
    (s.noticesAfter posts).queue = s.notices.queue ++ posts.map fun n =>
      { kind := n.1, cycle := s.slots.cycle, station := n.2.1, detail := n.2.2.1, value := n.2.2.2 } := by
  induction posts generalizing s with
  | nil => simp
  | cons n posts ih =>
    have hone : (s.noticesAfter [n]).queue = s.notices.queue ++
        [{ kind := n.1, cycle := s.slots.cycle, station := n.2.1, detail := n.2.2.1, value := n.2.2.2 }] :=
      queuePost_room _ (by simp only [List.length_cons] at h; simp only [Config.noticeCapacity]; omega)
    rw [State.noticesAfter_cons, ih, hone]
    · simp
    · simp only [hone, List.length_append, List.length_cons, List.length_nil] at h ⊢
      omega

/-! ## The admission test (R82) -/

section
variable {s : State} {k : Station} {since : Cycle}

theorem State.admissionTest_ahead (h : ahead (admissionDueCycle s.slots.cycle since s.reference.record.stoppedSince) s.slots.cycle = true) :
    s.admissionTest k since = s.setEntry k { s.roster.entries[k] with
      admissionDue := some (admissionDueCycle s.slots.cycle since s.reference.record.stoppedSince) } := if_pos h

theorem State.admissionTest_reached
    (h : ahead (admissionDueCycle s.slots.cycle since s.reference.record.stoppedSince) s.slots.cycle = false) :
    s.admissionTest k since = s.admitStation k true := if_neg (by simp [h])

end

/-- The later of two cycles behind c is the one less far back. -/
def laterCycle (c a b : Cycle) : Cycle := if (c - a).toNat ≤ (c - b).toNat then a else b

theorem laterCycle_spec (c a b : Cycle) : (laterCycle c a b = a ∨ laterCycle c a b = b) ∧
    (c - laterCycle c a b).toNat ≤ (c - a).toNat ∧ (c - laterCycle c a b).toNat ≤ (c - b).toNat := by
  unfold laterCycle
  split
  next h => exact ⟨.inl rfl, le_refl _, h⟩
  next h => exact ⟨.inr rfl, (Nat.lt_of_not_le h).le, le_refl _⟩

/-! ## A publication by the entry (R79, R83) -/

section
variable {s : State} {k : Station}

theorem State.rosterPublication_idle (hd : ¬ (s.roster.entries[k].state = .member ∧ s.roster.entries[k].leaveDue = some s.slots.cycle))
    (ha : ¬ (s.roster.entries[k].state = .candidate ∧ s.roster.entries[k].admissionDue = some s.slots.cycle)) :
    s.rosterPublication k = s := by
  unfold State.rosterPublication
  extract_lets e
  rw [if_neg hd, if_neg ha, ite_self]

theorem State.rosterPublication_departs (hk : k ≠ s.own)
    (hd : s.roster.entries[k].state = .member ∧ s.roster.entries[k].leaveDue = some s.slots.cycle) :
    s.rosterPublication k = s.removeMember k .left := by
  unfold State.rosterPublication
  extract_lets e
  rw [if_neg hk, if_pos hd]

theorem State.rosterPublication_admits (hk : k ≠ s.own)
    (ha : s.roster.entries[k].state = .candidate ∧ s.roster.entries[k].admissionDue = some s.slots.cycle) :
    s.rosterPublication k = if s.reference.lastPublished = .stopped then s.admitStation k false
      else s.setEntry k { s.roster.entries[k] with admissionDue := none } := by
  have hd : ¬ (s.roster.entries[k].state = .member ∧ s.roster.entries[k].leaveDue = some s.slots.cycle) :=
    fun hd => nomatch ha.1.symm.trans hd.1
  unfold State.rosterPublication
  extract_lets e
  rw [if_neg hk, if_neg hd, if_pos ha]

end

/-- Settles O42: the admission test by its due cycle, and a publication by the entry. -/
theorem admissionsAndDeparturesFallDue : Obligations.AdmissionsAndDeparturesFallDue := by
  refine ⟨fun s k since hk => ?test, fun s k hk => ?publication⟩
  case test =>
    intro c stopped entry t
    obtain ⟨hlater, hsince, hstopped⟩ := laterCycle_spec c since stopped
    refine ⟨laterCycle c since stopped, hlater, hsince, hstopped, State.admissionTest_ahead, fun h => ?_⟩
    have ht : t = s.admitStation k true := State.admissionTest_reached h
    rw [ht]
    refine ⟨by rw [State.admitStation_eq]; rfl, by rw [State.admitStation_isMember hk, if_pos rfl],
      by rw [State.admitStation_eq]; rfl, fun j hj => by rw [State.admitStation_isMember hk, if_neg hj], fun hroom => ?_⟩
    have hlen := admittedStop_length (k := k) s.roster.entries[k]
    rw [State.admitStation_notices, State.noticesAfter_queue s _ (by simp only [List.length_cons]; omega)]
    exact List.mem_append_right _ (List.mem_cons_self ..)
  case publication =>
    intro c entry t departs admitted
    refine ⟨State.rosterPublication_idle, fun hd => ?_, fun ha hp => ?_, fun ha hp => ?_⟩
    · have ht : t = s.removeMember k .left := State.rosterPublication_departs hk hd
      rw [ht]
      exact ⟨State.removeMember_entries .., by rw [State.removeMember_isMember hk]; simp, State.removeMember_view ..,
        State.removeMember_others .., State.removeMember_verdict .., State.removeMember_serial ..,
        State.removeMember_posts_quiet, State.removeMember_posts_lost⟩
    · have ht : t = s.admitStation k false := (State.rosterPublication_admits hk ha).trans (if_pos hp)
      rw [ht]
      refine ⟨by rw [State.admitStation_eq]; rfl, by rw [State.admitStation_isMember hk, if_pos rfl],
        by rw [State.admitStation_eq]; rfl, fun cause effective hstop => ?_, fun hstop => ?_⟩
      · rw [State.admitStation_notices, admittedStop_some hstop]; rfl
      · rw [State.admitStation_notices, admittedStop_none hstop]; rfl
    · exact (State.rosterPublication_admits hk ha).trans (if_neg hp)

end Sys2Proof.Machine
end

section
/-! PROOFS. JOINING frames at a MEMBER or LEAVING station (R80, R81, R78): heard again, restarted, or a candidate. -/

namespace Sys2Proof.Machine
open Sys2Proof

/-! ## The entry states, and the set, once a frame has been heard -/

theorem RosterEntry.counted_state (e : RosterEntry) (limit : Nat) (heard : Bool) : (e.counted limit heard).state = e.state := by
  unfold RosterEntry.counted; (repeat' split) <;> rfl

/-- A re-alignment leaves every entry's state. -/
theorem State.realign_entryState (s : State) (k : Station) (e bytes : Nat) (j : Station) :
    (s.realign k e bytes).roster.entries[j].state = s.roster.entries[j].state := by
  cases ht : s.slots.timing with
  | none => rw [State.realign_none k e bytes ht]
  | some t =>
    rw [State.realign_eq k e bytes ht]
    refine (congrArg RosterEntry.state (Roster.countedAll_entry _ _ (t.closesAtRealign_nodup k) _ j)).trans ?_
    split
    · exact RosterEntry.counted_state ..
    · rfl

/-- The set follows from the entries' states, the own number and the station state. -/
theorem State.memberSet_of_states {s t : State} (hr : ∀ j : Station, t.roster.entries[j].state = s.roster.entries[j].state)
    (hs : t.store = s.store) (hl : t.life.state = s.life.state) : t.memberSet = s.memberSet := by
  have hown : t.own = s.own := congrArg ConfigStore.number hs
  refine setOf_congr fun j => ?_
  simp only [State.isMember, State.rosterEntry, hown, hl]
  split
  · rfl
  · rw [hr]

/-- A removal takes its station out of the set. -/
theorem State.removeMember_memberSet {s : State} {k : Station} {reason : RemovalReason} (hk : k ≠ s.own) :
    (s.removeMember k reason).memberSet = setRemove s.memberSet k :=
  stationSet_ext fun j => by
    rw [contains_setRemove, State.memberSet, State.memberSet, contains_setOf, contains_setOf, State.removeMember_isMember hk]

section
variable {s : State} {f : Frame} {e bytes : Nat} {order : PartOrder}

/-! ## The steps of the model, by the sender -/

/-- A JOINING frame of a member with the own count and digest (R80). -/
theorem State.takeFromMember_joining (hc : f.cycle = s.slots.cycle) (hd : f.digest = s.digest) (hj : f.state = .joining) :
    s.takeFromMember f e bytes order = ((s.realign f.station e bytes).hear f true).takeMemberJoining f := by
  simp [State.takeFromMember, hc, hd, hj]

/-- A JOINING frame from outside the set with the own count and digest (R81). -/
theorem State.takeFromOutside_joining (hc : f.cycle = s.slots.cycle) (hd : f.digest = s.digest) (hj : f.state = .joining) :
    s.takeFromOutside f e bytes = ((s.realign f.station e bytes).hear f true).takeCandidate f := by
  simp [State.takeFromOutside, hc, hd, hj]

/-- The joining-since that is recorded (R80). -/
theorem State.takeMemberJoining_again (h : s.roster.entries[f.station].joiningSince = some f.joiningSince) :
    s.takeMemberJoining f = s.setEntry f.station { s.roster.entries[f.station] with
      restartCause := f.restartCause, joiningClaims := some (joiningClaimsOf f), cycleMismatch := false } := if_pos h

/-- The restarted member removed, and PEER_RESTARTED posted (R80). -/
def State.peerRestarted (s : State) (f : Frame) : State :=
  (s.removeMember f.station .restarted).post .peerRestarted (stationNumber f.station) (codeOr0 RestartCause.code f.restartCause)
    f.joiningSince

/-- The admission test that follows at a MEMBER whose record is STOPPED (R82). -/
def State.testedFor (s : State) (f : Frame) : State :=
  if s.life.state = .member ∧ s.reference.record.ramp = .stopped then s.admissionTest f.station f.joiningSince else s

theorem State.testedFor_leaving (h : s.life.state = .leaving) : s.testedFor f = s := by
  simp [State.testedFor, h]

theorem State.testedFor_member (h : s.life.state = .member) :
    s.testedFor f = if s.reference.record.ramp = .stopped then s.admissionTest f.station f.joiningSince else s := by
  simp only [State.testedFor, h, true_and]

/-- A frame of a station whose entry is a candidate's already gives it its fields (R81 step 2), and the test follows. -/
theorem State.takeCandidate_known (hl : s.life.state = .member ∨ s.life.state = .leaving)
    (he : s.roster.entries[f.station].state = .candidate) :
    s.takeCandidate f = (s.setEntry f.station (candidateEntry f { s.roster.entries[f.station] with state := .candidate })).testedFor f := by
  rcases hl with hl | hl
  · rw [State.testedFor_member (by exact hl)]
    simp only [State.takeCandidate, if_neg (show s.life.state ≠ .leaving by simp [hl]), if_pos he]
  · rw [State.testedFor_leaving (by exact hl), State.takeCandidate, if_pos hl, ← he]

/-- A candidate new to a MEMBER is posted CANDIDATE_HEARD (R81 step 3). -/
theorem State.takeCandidate_new (hl : s.life.state = .member) (he : s.roster.entries[f.station].state ≠ .candidate) :
    s.takeCandidate f =
      ((s.setEntry f.station (candidateEntry f { s.roster.entries[f.station] with state := .candidate })).post
        .candidateHeard (stationNumber f.station) (codeOr0 RestartCause.code f.restartCause) f.joiningSince).testedFor f := by
  rw [State.testedFor_member (by exact hl)]
  simp only [State.takeCandidate, if_neg (show s.life.state ≠ .leaving by simp [hl]), if_neg he]

end

/-! ## A JOINING frame heard -/

/-- The state in which a JOINING frame of another number has been heard, before its joining fields are taken. -/
def State.joiningHeard (s : State) (f : Frame) (e bytes : Nat) : State := (s.frameTaken.realign f.station e bytes).hear f true

section
variable {s : State} {f : Frame} {e bytes : Nat}

/-- What a heard frame leaves but for the roster and the timing. -/
theorem State.joiningHeard_blocks (s : State) (f : Frame) (e bytes : Nat) :
    (s.joiningHeard f e bytes).agreement = s.agreement ∧ (s.joiningHeard f e bytes).claims = s.claims ∧
      (s.joiningHeard f e bytes).life = s.life ∧ (s.joiningHeard f e bytes).reference = s.reference ∧
      (s.joiningHeard f e bytes).store = s.store ∧ (s.joiningHeard f e bytes).notices = s.notices ∧
      (s.joiningHeard f e bytes).slots.cycle = s.slots.cycle := by
  obtain ⟨-, -, -, hlife, hagreement, hclaims, hreference, -, -, hnotices, hstore, -⟩ :=
    s.frameTaken.realign_frame f.station e bytes
  exact ⟨hagreement, hclaims, hlife, hreference, hstore, hnotices, State.realign_cycle ..⟩

/-- A frame heard leaves the set. -/
theorem State.joiningHeard_memberSet (s : State) (f : Frame) (e bytes : Nat) :
    (s.joiningHeard f e bytes).memberSet = s.memberSet := by
  obtain ⟨-, -, hlife, -, hstore, -, -⟩ := s.joiningHeard_blocks f e bytes
  refine State.memberSet_of_states (fun j => ?_) hstore (congrArg LifeCycle.state hlife)
  have haligned := s.frameTaken.realign_entryState f.station e bytes j
  refine Eq.trans ?_ haligned
  simp only [State.joiningHeard, State.hear_eq, State.heardAs]
  by_cases hj : j = f.station
  · subst hj; simp
  · have hne : f.station.val ≠ j.val := fun h => hj (Fin.ext h.symm)
    simp [hne]

end

/-! ## A member restarted (R78, R80) -/

section
variable {s : State} {f : Frame}

/-- MEMBER_REMOVED of a restarted member. -/
def restartRemoval (s : State) (k : Station) : OwnNotice :=
  (.memberRemoved, stationNumber k, RemovalReason.restarted.code, setRemove s.memberSet k)

/-- PEER_RESTARTED. -/
def restartNotice (f : Frame) : OwnNotice :=
  (.peerRestarted, stationNumber f.station, codeOr0 RestartCause.code f.restartCause, f.joiningSince)

/-- The entry of a restarted member: removed, and a candidate by the frame (R78, R81). -/
def restartedEntry (f : Frame) (entry : RosterEntry) : RosterEntry := candidateEntry f (removedEntry .restarted entry)

/-- The state in which a member has restarted, before the admission test. -/
def State.restartedPeer (s : State) (f : Frame) : State := { s.setEntry f.station (restartedEntry f s.roster.entries[f.station]) with
  agreement := (s.removeMember f.station .restarted).agreement
  claims := (s.removeMember f.station .restarted).claims
  notices := (s.peerRestarted f).notices }

/-- A JOINING frame of a member with another joining-since (R78, R80). -/
theorem State.takeMemberJoining_restarted (hl : s.life.state = .member ∨ s.life.state = .leaving)
    (h : s.roster.entries[f.station].joiningSince ≠ some f.joiningSince) :
    s.takeMemberJoining f = (s.restartedPeer f).testedFor f := by
  have hentries : (s.peerRestarted f).roster.entries = (s.removeMember f.station .restarted).roster.entries := by
    simp [State.peerRestarted]
  have hentry : (s.peerRestarted f).roster.entries[f.station] = removedEntry .restarted s.roster.entries[f.station] := by
    rw [hentries, State.removeMember_entries]; simp
  have hpeer : s.restartedPeer f = (s.peerRestarted f).setEntry f.station (restartedEntry f s.roster.entries[f.station]) := by
    rw [State.restartedPeer, State.peerRestarted, State.post_eq, State.removeMember_blocks]
    simp [State.setEntry, State.removed]
  have htaken : s.takeMemberJoining f = (s.peerRestarted f).takeCandidate f := if_neg h
  rw [htaken, State.takeCandidate_known (by simpa [State.peerRestarted] using hl) (by rw [hentry]; rfl), hentry, hpeer]
  rfl

/-- What a restart posts where no MEMBER's line runs. -/
theorem State.peerRestarted_quiet (hk : f.station ≠ s.own) (h : s.life.state ≠ .member ∨ s.reference.record.ramp = .stopped) :
    (s.peerRestarted f).notices = s.noticesAfter [restartRemoval s f.station, restartNotice f] := by
  have hremoved := (State.removeMember_posts_quiet (k := f.station) (reason := .restarted) h).2
  rw [State.removeMember_memberSet hk] at hremoved
  exact State.noticesAfter_snoc hremoved (by rw [State.removeMember_blocks]) (by rw [State.removeMember_blocks]) (restartNotice f)

/-- What a restart posts where a MEMBER's line runs and its claim is clear: MEMBER_LOST's claim between the two notices. -/
theorem State.peerRestarted_lost (hk : f.station ≠ s.own) (hm : s.life.state = .member) (hr : s.reference.record.ramp ≠ .stopped)
    (hclear : s.claims.stop = none) : (s.peerRestarted f).notices = s.noticesAfter [restartRemoval s f.station,
      (.stopClaim, stationNumber s.own, StopCause.memberLost.code, 0), restartNotice f] := by
  have hlost := (State.removeMember_posts_lost (k := f.station) (reason := .restarted) hm hr).2
  rw [State.removeMember_memberSet hk, State.raise_clear .memberLost (by exact hclear)] at hlost
  exact State.noticesAfter_snoc (posts := [_, _]) (hlost.trans (State.noticesAfter_cons s (restartRemoval s f.station) _).symm)
    (by rw [State.removeMember_blocks]) (by rw [State.removeMember_blocks]) (restartNotice f)

end

/-- Settles O39: a member heard again, a member restarted, and a station outside the set. -/
theorem joiningFramesMakeCandidates : Obligations.JoiningFramesMakeCandidates := by
  intro s order r e f hw hj hc hd hl k aligned entry heardEntry tested
  obtain ⟨hagreement, hclaims, hlife, hreference, hstore, hnotices, hcycle⟩ := s.joiningHeard_blocks f e r.bytes.length
  have hmembers := s.joiningHeard_memberSet f e r.bytes.length
  have hheard : s.joiningHeard f e r.bytes.length =
      aligned.heardAs k { entry with lastHeard := s.slots.cycle, digestHeard := f.digest } true := by
    rw [State.joiningHeard, State.hear_eq, show aligned.slots.cycle = s.slots.cycle from State.realign_cycle ..]
  have hmember (hm : s.isMember k = true) {t : State} (ht : (s.joiningHeard f e r.bytes.length).takeMemberJoining f = t) :
      exec (.receivedWhole order) s = .next t :=
    hw.exec_next order ((State.handOn_fromMember (s := s.frameTaken) hw.other hl hm).trans
      ((State.takeFromMember_joining (s := s.frameTaken) hc hd hj).trans ht))
  have houtside (hlm : s.life.state = .member) (hm : s.isMember k = false) {t : State}
      (ht : (s.joiningHeard f e r.bytes.length).takeCandidate f = t) : exec (.receivedWhole order) s = .next t :=
    hw.exec_next order ((State.handOn_fromOutside (s := s.frameTaken) hw.other hlm hm).trans
      ((State.takeFromOutside_joining (s := s.frameTaken) hc hd hj).trans ht))
  have htested (t : State) (htl : t.life = s.life) (htr : t.reference = s.reference) : t.testedFor f = tested t := by
    rw [State.testedFor, htl, htr]
  generalize s.joiningHeard f e r.bytes.length = h at *
  have hentry : h.roster.entries[f.station] = { entry with lastHeard := s.slots.cycle, digestHeard := f.digest } := by
    rw [hheard]; exact State.heardAs_entry ..
  have hset (x : RosterEntry) : h.setEntry f.station x = aligned.heardAs k x true := by
    rw [hheard]; exact State.heardAs_setEntry ..
  have hafter (posts : List OwnNotice) : h.noticesAfter posts = s.noticesAfter posts :=
    State.noticesAfter_congr hnotices hcycle hstore posts
  have hstation : h.own = s.own := congrArg ConfigStore.number hstore
  have hown : f.station ≠ h.own := hstation ▸ hw.other
  rw [← hlife] at hl
  refine ⟨fun hm hsince => hmember hm ?_, fun hm hsince => ?restarted, fun hm hlm => ?outside⟩
  · rw [State.takeMemberJoining_again (by rw [hentry]; exact hsince), hset, hentry]
    simp only [heardEntry, hsince]
    rfl
  case restarted =>
    intro removed restarted
    have hwritten : restartedEntry f h.roster.entries[f.station] =
        { heardEntry with state := .candidate, admissionDue := none, leaveDue := none, cycleMismatch := false } := by
      rw [hentry, restartedEntry, removedEntry, candidateEntry, if_neg nofun]; rfl
    have ht : h.restartedPeer f = { h.setEntry f.station (restartedEntry f h.roster.entries[f.station]) with
        agreement := (h.restartedPeer f).agreement, claims := (h.restartedPeer f).claims
        notices := (h.restartedPeer f).notices } := rfl
    rw [hset, hwritten] at ht
    have hremoved : restartRemoval h f.station = removed := by rw [restartRemoval, hmembers]
    refine ⟨h.restartedPeer f, hmember hm ?_, ht, ?_, ?_, ?_, ?_, fun hq => ?_, fun hlm hr => ?_⟩
    · rw [State.takeMemberJoining_restarted hl (by rw [hentry]; exact hsince)]
      exact htested _ hlife hreference
    · rw [← hagreement]; exact State.removeMember_others ..
    · rw [← hclaims]; exact State.removeMember_view ..
    · rw [← hagreement]; exact State.removeMember_verdict ..
    · rw [← hagreement]; exact State.removeMember_serial ..
    · have hq : h.life.state ≠ .member ∨ h.reference.record.ramp = .stopped := by
        rw [hlife, hreference]; exact hq.imp_left fun hv => by simp [hv]
      rw [← hremoved, ← hafter, ← hclaims]
      exact ⟨(State.removeMember_posts_quiet hq).1, State.peerRestarted_quiet hown hq⟩
    · rw [← hlife] at hlm
      rw [← hreference] at hr
      have hstop : (h.restartedPeer f).claims.stop = (h.raise .memberLost).claims.stop :=
        (State.removeMember_posts_lost hlm hr).1
      refine ⟨by rw [hstop]; exact State.raise_isSome .., fun hclear => ?_⟩
      rw [← hclaims] at hclear
      rw [hstop, State.raise_clear _ hclear, ← hremoved, ← hafter, ← hstation]
      exact ⟨rfl, State.peerRestarted_lost hown hlm hr hclear⟩
  case outside =>
    intro candidate
    have hwritten : candidateEntry f { h.roster.entries[f.station] with state := .candidate } = { heardEntry with
        state := .candidate
        admissionDue := if entry.joiningSince = some f.joiningSince then entry.admissionDue else none } := by
      rw [hentry]; rfl
    have hstate : h.roster.entries[f.station].state = entry.state := by rw [hentry]
    have hcandidate : h.setEntry f.station (candidateEntry f { h.roster.entries[f.station] with state := .candidate }) = candidate := by
      rw [hwritten, hset]
    by_cases hknown : entry.state = .candidate
    · have hnoted : candidate.notices = s.notices := by rw [← hcandidate]; exact hnotices
      refine houtside hlm hm ?_
      rw [State.takeCandidate_known hl (hstate.trans hknown), hcandidate, if_pos hknown, ← hnoted]
      exact htested candidate (by rw [← hcandidate]; exact hlife) (by rw [← hcandidate]; exact hreference)
    · refine houtside hlm hm ?_
      rw [State.takeCandidate_new (hlife ▸ hlm) (hstate ▸ hknown), if_neg hknown, ← hafter, hcandidate, State.post_eq,
        State.noticesAfter_congr (s := h) (t := candidate) (by rw [← hcandidate]; rfl) (by rw [← hcandidate]; rfl)
          (by rw [← hcandidate]; rfl)]
      exact htested _ (by rw [← hcandidate]; exact hlife) (by rw [← hcandidate]; exact hreference)

end Sys2Proof.Machine
end

section
/-! PROOFS. The agreement unit at the own-slot start (R47): the own entry by its phase, then the verdicts. -/

namespace Sys2Proof.Machine
open Sys2Proof

/-! ## What an own entry carries, by its phase (R28, R33) -/

section
variable {e : OwnEntry} {b : Ballot}

theorem OwnEntry.slot_queued (h : e.phase = .queued) : e.announce = e ∧ e.offer = none ∧ e.decision = none := by
  simp [OwnEntry.announce, OwnEntry.offer, OwnEntry.decision, h]

theorem OwnEntry.slot_offered (h : e.phase = .offered b) : e.announce = e ∧
    e.offer = some { serial := e.serial, kind := e.kind, target := e.target, firstOffered := b.firstOffered, voters := b.voters } ∧
    e.decision = none := by
  simp [OwnEntry.announce, OwnEntry.offer, OwnEntry.decision, h]

/-- A decision is carried, and its announcement counted, while fewer than two frames have carried it (R33). -/
structure OwnEntry.Announces (e counted : OwnEntry) (part : DecisionPart) (n : Nat) : Prop where
  remaining : n < 2 → e.announce = counted ∧ e.decision = some part
  done : 2 ≤ n → e.announce = e ∧ e.decision = none

theorem OwnEntry.slot_committed {effective : Cycle} {n : Nat} (h : e.phase = .committed b effective n) : e.offer = none ∧
    e.Announces { e with phase := .committed b effective (n + 1) } { serial := e.serial, outcome := .commit, effective := effective } n := by
  refine ⟨by simp [OwnEntry.offer, h], fun hn => ?_, fun hn => ?_⟩
  · simp [OwnEntry.announce, OwnEntry.decision, h, Config.announcementLimit, hn]
  · simp [OwnEntry.announce, OwnEntry.decision, h, Config.announcementLimit, Nat.not_lt.2 hn]

theorem OwnEntry.slot_withdrawn {why : WithdrawReason} {n : Nat} (h : e.phase = .withdrawn b why n) : e.offer = none ∧
    e.Announces { e with phase := .withdrawn b why (n + 1) } { serial := e.serial, outcome := .withdraw why, effective := 0 } n := by
  refine ⟨by simp [OwnEntry.offer, h], fun hn => ?_, fun hn => ?_⟩
  · simp [OwnEntry.announce, OwnEntry.decision, h, Config.announcementLimit, hn]
  · simp [OwnEntry.announce, OwnEntry.decision, h, Config.announcementLimit, Nat.not_lt.2 hn]

/-- The entry left and the decision carried, said of what stands after the slot. -/
theorem OwnEntry.Announces.shown {counted : OwnEntry} {part : DecisionPart} {n : Nat} (h : e.Announces counted part n)
    {own : Option OwnEntry} {decision : Option DecisionPart} (ho : own = some e.announce) (hd : decision = e.decision) :
    (n < 2 → own = some counted ∧ decision = some part) ∧ (2 ≤ n → own = some e ∧ decision = none) := by
  subst ho hd
  exact ⟨fun hn => ⟨congrArg some (h.remaining hn).1, (h.remaining hn).2⟩, fun hn => ⟨congrArg some (h.done hn).1, (h.done hn).2⟩⟩

end

/-! ## The table dealt with -/

/-- A verdict moves the entries of other origins alone. -/
theorem State.giveVerdict_own (s : State) (e : OtherEntry) :
    (s.giveVerdict e).agreement.own = s.agreement.own ∧ (s.giveVerdict e).agreement.serial = s.agreement.serial := ⟨rfl, rfl⟩

theorem State.giveVerdicts_own (s : State) :
    s.giveVerdicts.agreement.own = s.agreement.own ∧ s.giveVerdicts.agreement.serial = s.agreement.serial :=
  ⟨foldl_field (g := fun t => t.agreement.own) (fun t e => (t.giveVerdict_own e).1) _ _,
    foldl_field (g := fun t => t.agreement.serial) (fun t e => (t.giveVerdict_own e).2) _ _⟩

/-- Verdicts do not read the slot timer. -/
theorem State.giveVerdicts_slots (s : State) (slots : SlotTimer) :
    ({ s with slots := slots } : State).giveVerdicts = { s.giveVerdicts with slots := slots } := by
  have fold (l : List OtherEntry) (t : State) : l.foldl State.giveVerdict { t with slots := slots } =
      { l.foldl State.giveVerdict t with slots := slots } := by
    induction l generalizing t with
    | nil => rfl
    | cons e l ih => exact ih (t.giveVerdict e)
  exact fold _ s

section
variable {s : State} {e : OwnEntry} {b : Ballot}

theorem State.dealOwnEntry_none (h : s.agreement.own = none) : s.dealOwnEntry = s := by
  simp only [State.dealOwnEntry, h]

theorem State.dealOwnEntry_dropped {why : Reason} (h : s.agreement.own = some e) (hp : e.phase = .queued)
    (hc : s.offerCheck e.kind e.target none s.own = some why) :
    s.dealOwnEntry = (s.setOwnEntry none).postOfferResult .dropped e.serial 0 why.code := by
  simp only [State.dealOwnEntry, h, hp, hc]

theorem State.dealOwnEntry_offered (h : s.agreement.own = some e) (hp : e.phase = .queued)
    (hc : s.offerCheck e.kind e.target none s.own = none) :
    s.dealOwnEntry = s.setOwnEntry (some { e with phase := .offered ⟨s.slots.cycle, s.memberSet, singleton s.own, none⟩ }) := by
  simp only [State.dealOwnEntry, h, hp, hc]

theorem State.dealOwnEntry_refused {k : Station} {why : Reason} (h : s.agreement.own = some e) (hp : e.phase = .offered b)
    (hr : b.refusal = some (k, why)) : s.dealOwnEntry =
      (s.setOwnEntry (some { e with phase := .withdrawn b .refused 0 })).postOfferResult .refused e.serial (stationNumber k) why.code := by
  simp only [State.dealOwnEntry, h, hp, hr]

/-- Every voter that is still a member has acknowledged (R30). -/
def State.allAcknowledged (s : State) (b : Ballot) : Prop :=
  ∀ k : Station, contains b.voters k = true → s.isMember k = true → contains b.acks k = true

theorem State.allAcknowledged_iff (s : State) (b : Ballot) :
    subset (b.voters &&& s.memberSet) b.acks = true ↔ s.allAcknowledged b := by
  have hboth (k : Station) : contains (b.voters &&& s.memberSet) k = (contains b.voters k && s.isMember k) := by
    rw [← contains_setOf s.isMember k]
    exact BitVec.getLsbD_and ..
  simp only [subset_iff, hboth, Bool.and_eq_true, and_imp, State.allAcknowledged]

theorem State.dealOwnEntry_committed (h : s.agreement.own = some e) (hp : e.phase = .offered b) (hr : b.refusal = none)
    (ha : s.allAcknowledged b) : s.dealOwnEntry = s.setOwnEntry (some { e with phase := .committed b (s.slots.cycle + 2) 0 }) := by
  simp only [State.dealOwnEntry, h, hp, hr, if_pos ((s.allAcknowledged_iff b).2 ha)]
  rfl

theorem State.dealOwnEntry_waiting (h : s.agreement.own = some e) (hp : e.phase = .offered b) (hr : b.refusal = none)
    (ha : ¬ s.allAcknowledged b) : s.dealOwnEntry = s := by
  simp only [State.dealOwnEntry, h, hp, hr, if_neg (mt (s.allAcknowledged_iff b).1 ha)]

theorem State.dealOwnEntry_decided (h : s.agreement.own = some e)
    (hp : (∃ effective n, e.phase = .committed b effective n) ∨ ∃ why n, e.phase = .withdrawn b why n) : s.dealOwnEntry = s := by
  rcases hp with ⟨effective, n, hp⟩ | ⟨why, n, hp⟩ <;> simp only [State.dealOwnEntry, h, hp]

end

/-! ## The own-slot start, the frame's parts and the table (R47) -/

/-- What an own-slot start leaves of the table and the notices, and the parts that its frame carries, from the state with the table dealt with. -/
structure SlotParts (dealt t : State) (a : Frame) : Prop where
  table : t.agreement = { dealt.agreement with own := dealt.agreement.own.map (·.announce) }
  notices : t.notices = dealt.notices
  decision : a.decision = dealt.agreement.own.bind (·.decision)
  member : dealt.life.state = .member →
    a.offer = dealt.agreement.own.bind (·.offer) ∧ a.responses = dealt.agreement.responses
  other : dealt.life.state ≠ .member → a.offer = none ∧ a.responses = []

section
variable {s : State} {timing : Timing}

theorem State.ownSlotStart_parts (hr : s.inReset = false) (ht : s.slots.timing = some timing) (hl : s.life.state.transmits = true)
    (ho : timing.ownStartRaised = false) : ∃ t a, exec .ownSlotStart s = .next t ∧
      t.assembled = some { frame := a, startedAt := s.slots.now } ∧ SlotParts (s.ownSlotRaised timing).dealt t a := by
  let u := s.ownSlotRaised timing
  obtain ⟨hoffer, hdecision, hresponses⟩ := u.slotFrame_parts
  obtain ⟨hlife, -⟩ := u.dealt_frame
  refine ⟨_, u.slotFrame, by rw [exec_ownSlotStart, outOfReset_free hr, State.takeSlotStart_taken ht hl ho, State.slotStartWork_eq],
    rfl, ?_, ?_, hdecision, fun hm => ?_, fun hn => ?_⟩
  · simp [State.slotOwners, State.agreementSlot_eq, State.setOwnEntry]
  · simp [State.slotOwners, State.agreementSlot_eq, State.setOwnEntry]
  · rw [hlife] at hm
    rw [hoffer, hresponses, if_pos hm, if_pos hm]
    exact ⟨rfl, rfl⟩
  · rw [hlife] at hn
    rw [hoffer, hresponses, if_neg hn, if_neg hn]
    exact ⟨rfl, rfl⟩

/-- The state with the own-slot start raised and the verdicts given. -/
def State.verdictsGiven (s : State) (timing : Timing) : State := { s.giveVerdicts with slots := (s.ownSlotRaised timing).slots }

theorem State.ownSlotRaised_giveVerdicts (s : State) (timing : Timing) :
    (s.ownSlotRaised timing).giveVerdicts = s.verdictsGiven timing := s.giveVerdicts_slots _

/-- At a MEMBER the verdicts are given and the own entry dealt with. -/
theorem State.dealt_member (hm : s.life.state = .member) :
    (s.ownSlotRaised timing).dealt = (s.verdictsGiven timing).dealOwnEntry := by
  rw [State.dealt, if_pos (show (s.ownSlotRaised timing).life.state = .member from hm), State.ownSlotRaised_giveVerdicts]

/-- Elsewhere the table stays. -/
theorem State.dealt_other (hm : s.life.state ≠ .member) : (s.ownSlotRaised timing).dealt = s.ownSlotRaised timing := if_neg hm

/-- The verdicts leave the own entry and every other block. -/
theorem State.verdictsGiven_frame (s : State) (timing : Timing) :
    (s.verdictsGiven timing).agreement.own = s.agreement.own ∧ (s.verdictsGiven timing).agreement.serial = s.agreement.serial ∧
      (s.verdictsGiven timing).life = s.life ∧ (s.verdictsGiven timing).own = s.own ∧
      (s.verdictsGiven timing).memberSet = s.memberSet ∧ (s.verdictsGiven timing).slots.cycle = s.slots.cycle ∧
      ∀ posts, (s.verdictsGiven timing).noticesAfter posts = s.noticesAfter posts := by
  obtain ⟨hown, hserial⟩ := s.giveVerdicts_own
  obtain ⟨-, -, -, -, hlife, hroster, -, -, -, -, hnotices, hstore, -⟩ := s.giveVerdicts_frame
  exact ⟨hown, hserial, hlife, congrArg ConfigStore.number hstore,
    State.memberSet_congr (t := s.verdictsGiven timing) hroster hstore (congrArg LifeCycle.state hlife), rfl,
    State.noticesAfter_congr (t := s.verdictsGiven timing) hnotices rfl hstore⟩

theorem State.verdictsGiven_allAcknowledged (s : State) (timing : Timing) (b : Ballot) :
    (s.verdictsGiven timing).allAcknowledged b ↔ s.allAcknowledged b := by
  obtain ⟨-, -, -, -, hmembers, -, -⟩ := s.verdictsGiven_frame timing
  rw [← State.allAcknowledged_iff, ← State.allAcknowledged_iff, hmembers]

/-- At a MEMBER the own entry's announcement is counted, and the frame carries its offer and its decision. -/
theorem SlotParts.carried {dealt t : State} {a : Frame} (h : SlotParts dealt t a) (hm : dealt.life.state = .member) :
    t.agreement.own = dealt.agreement.own.map (·.announce) ∧ a.offer = dealt.agreement.own.bind (·.offer) ∧
      a.decision = dealt.agreement.own.bind (·.decision) ∧ t.notices = dealt.notices :=
  ⟨by rw [h.table], (h.member hm).1, h.decision, h.notices⟩

end

/-- Settles O53, by the station state and the own entry's phase. -/
theorem theOwnEntryMovesAtItsSlot : Obligations.TheOwnEntryMovesAtItsSlot := by
  refine ⟨fun s timing e hr hm ht ho he => ?own, fun s timing hr hm ht ho he => ?none, fun s timing hr hl ht ho => ?other⟩
  case own =>
    intro v c
    obtain ⟨t, a, hexec, hassembled, hparts⟩ := State.ownSlotStart_parts hr ht (by rw [hm]; rfl) ho
    obtain ⟨hown, -, hlife, hnumber, hmembers, hcycle, hposts⟩ := s.verdictsGiven_frame timing
    rw [State.dealt_member hm] at hparts
    obtain ⟨htown, hoffer, hdecision, hnotices⟩ := hparts.carried (by simp [hlife, hm])
    have hvown : (s.verdictsGiven timing).agreement.own = some e := hown.trans he
    have hkept : (s.verdictsGiven timing).notices = s.notices := hposts []
    refine ⟨t, a, hexec, hassembled, fun hp why hc => ?_, fun hp hc => ?_, fun b k why hp hb => ?_, fun b hp hb ha => ?_,
      fun b hp hb ⟨k, hv, hk, ha⟩ => ?_, fun b effective n hp => ?_, fun b why n hp => ?_⟩
    · rw [State.dealOwnEntry_dropped hvown hp (hnumber ▸ hc)] at htown hoffer hdecision hnotices
      exact ⟨htown, hoffer, hdecision, hnotices.trans (hposts [offerResultNotice .dropped e.serial 0 why.code])⟩
    · rw [State.dealOwnEntry_offered hvown hp (hnumber ▸ hc), hmembers, hnumber, hcycle] at htown hoffer hdecision hnotices
      exact ⟨htown, hoffer, hdecision, hnotices.trans hkept⟩
    · rw [State.dealOwnEntry_refused hvown hp hb] at htown hoffer hdecision hnotices
      exact ⟨htown, hoffer, hdecision, hnotices.trans (hposts [offerResultNotice .refused e.serial (stationNumber k) why.code])⟩
    · rw [State.dealOwnEntry_committed hvown hp hb ((s.verdictsGiven_allAcknowledged timing b).2 ha), hcycle] at htown hoffer hdecision hnotices
      exact ⟨htown, hoffer, hdecision, hnotices.trans hkept⟩
    · have hwaits : ¬ (s.verdictsGiven timing).allAcknowledged b := fun hall => by
        simpa [ha] using (s.verdictsGiven_allAcknowledged timing b).1 hall k hv hk
      rw [State.dealOwnEntry_waiting hvown hp hb hwaits, hvown] at htown hoffer hdecision
      rw [State.dealOwnEntry_waiting hvown hp hb hwaits] at hnotices
      obtain ⟨hannounce, hcarried, hnone⟩ := OwnEntry.slot_offered hp
      exact ⟨htown.trans (congrArg some hannounce), hdecision.trans hnone, hnotices.trans hkept, hoffer.trans hcarried⟩
    · have hd := State.dealOwnEntry_decided hvown (b := b) (.inl ⟨effective, n, hp⟩)
      rw [hd, hvown] at htown hoffer hdecision
      rw [hd] at hnotices
      obtain ⟨hcarried, hannounces⟩ := OwnEntry.slot_committed hp
      exact ⟨hoffer.trans hcarried, hnotices.trans hkept, hannounces.shown htown hdecision⟩
    · have hd := State.dealOwnEntry_decided hvown (b := b) (.inr ⟨why, n, hp⟩)
      rw [hd, hvown] at htown hoffer hdecision
      rw [hd] at hnotices
      obtain ⟨hcarried, hannounces⟩ := OwnEntry.slot_withdrawn hp
      exact ⟨hoffer.trans hcarried, hnotices.trans hkept, hannounces.shown htown hdecision⟩
  case none =>
    obtain ⟨t, a, hexec, hassembled, hparts⟩ := State.ownSlotStart_parts hr ht (by rw [hm]; rfl) ho
    obtain ⟨hown, hserial, hlife, -, -, -, hposts⟩ := s.verdictsGiven_frame timing
    have hvown : (s.verdictsGiven timing).agreement.own = none := hown.trans he
    rw [State.dealt_member hm, State.dealOwnEntry_none hvown] at hparts
    obtain ⟨htown, hoffer, hdecision, hnotices⟩ := hparts.carried (by rw [hlife, hm])
    rw [hvown] at htown hoffer hdecision
    exact ⟨t, a, hexec, hassembled, hoffer, hdecision, htown, by rw [hparts.table]; exact hserial, hnotices.trans (hposts [])⟩
  case other =>
    have hmember : s.life.state ≠ .member := by rcases hl with hl | hl <;> simp [hl]
    obtain ⟨t, a, hexec, hassembled, hparts⟩ := State.ownSlotStart_parts hr ht (by rcases hl with hl | hl <;> rw [hl] <;> rfl) ho
    rw [State.dealt_other hmember] at hparts
    obtain ⟨hoffer, hresponses⟩ := hparts.other hmember
    have htown : t.agreement.own = s.agreement.own.map (·.announce) := by rw [hparts.table]; rfl
    have hdecision : a.decision = s.agreement.own.bind (·.decision) := hparts.decision
    refine ⟨t, a, hexec, hassembled, hoffer, hresponses, by rw [hparts.table]; rfl, by rw [hparts.table]; rfl, hparts.notices,
      fun he => ?_, fun _ e he => ?_⟩
    · rw [he] at htown hdecision
      exact ⟨htown, hdecision⟩
    · rw [he] at htown hdecision
      refine ⟨fun hp => ?_, fun b effective n hp => ?_, fun b why n hp => ?_⟩
      · have hquiet : e.announce = e ∧ e.decision = none := by
          rcases hp with hp | ⟨b, hp⟩
          · exact ⟨(OwnEntry.slot_queued hp).1, (OwnEntry.slot_queued hp).2.2⟩
          · exact ⟨(OwnEntry.slot_offered hp).1, (OwnEntry.slot_offered hp).2.2⟩
        exact ⟨htown.trans (congrArg some hquiet.1), hdecision.trans hquiet.2⟩
      · exact (OwnEntry.slot_committed hp).2.shown htown hdecision
      · exact (OwnEntry.slot_withdrawn hp).2.shown htown hdecision

end Sys2Proof.Machine
end

section
/-! PROOFS. The verdicts at the own-slot start (R38, R39): each on the table as the verdicts before it left it, and the responses. -/

namespace Sys2Proof.Machine
open Sys2Proof

/-! ## One verdict, and the verdicts in a row -/

/-- The verdict by the outcome of the checks (R38). -/
def verdictBy : Option Reason → Verdict
  | none => .ack
  | some why => .refuse why

/-- The state with these entries of other origins. -/
def State.withTable (s : State) (others : List OtherEntry) : State := { s with agreement := { s.agreement with others := others } }

/-- The verdict on an entry, by the checks on the table that stands (R38). -/
def State.verdictOn (s : State) (e : OtherEntry) : Verdict := verdictBy (s.offerCheck e.kind e.target (some e.voters) e.origin)

theorem State.giveVerdict_eq (s : State) (e : OtherEntry) :
    s.giveVerdict e = s.updateOther e.origin fun d => { d with verdict := some (s.verdictOn e) } := by
  unfold State.giveVerdict State.verdictOn verdictBy
  cases s.offerCheck e.kind e.target (some e.voters) e.origin <;> rfl

/-- An entry as the verdicts leave it, between the entries already dealt with and those still to come. -/
def State.judge (s : State) (before : List OtherEntry) (e : OtherEntry) (after : List OtherEntry) : OtherEntry :=
  if e.awaits s.own then { e with verdict := some ((s.withTable (before ++ e :: after)).verdictOn e) } else e

/-- The entries still to come as the verdicts leave them, in recording order. -/
def State.judged (s : State) (before : List OtherEntry) : List OtherEntry → List OtherEntry
  | [] => []
  | e :: after => s.judge before e after :: s.judged (before ++ [s.judge before e after]) after

section
variable {s : State}

theorem State.judge_origin (s : State) (before : List OtherEntry) (e : OtherEntry) (after : List OtherEntry) :
    (s.judge before e after).origin = e.origin := by
  unfold State.judge; split <;> rfl

/-- A verdict changes the one entry of its origin. -/
theorem State.giveVerdict_at {before after : List OtherEntry} {e : OtherEntry}
    (hkeyed : ((before ++ e :: after).map (·.origin)).Nodup) (ha : e.awaits s.own = true) :
    (s.withTable (before ++ e :: after)).giveVerdict e = s.withTable (before ++ s.judge before e after :: after) := by
  rw [List.map_append, List.map_cons, List.nodup_middle, List.nodup_cons, ← List.map_append] at hkeyed
  have hother (l : List OtherEntry) (hl : ∀ d ∈ l, d ∈ before ++ after) (change : OtherEntry → OtherEntry) :
      l.map (fun d => if d.origin = e.origin then change d else d) = l :=
    (List.map_congr_left (g := id) fun d hd => if_neg fun ho => hkeyed.1 (List.mem_map.2 ⟨d, hl d hd, ho⟩)).trans (List.map_id l)
  rw [State.giveVerdict_eq, State.updateOther, State.judge, if_pos ha]
  simp only [State.withTable, List.map_append, List.map_cons, if_true]
  rw [hother before (fun d hd => List.mem_append_left _ hd), hother after fun d hd => List.mem_append_right _ hd]

/-- The verdicts in recording order, from the first entry not yet dealt with. -/
theorem State.giveVerdicts_from (s : State) (before todo : List OtherEntry) (hkeyed : ((before ++ todo).map (·.origin)).Nodup) :
    (todo.filter (·.awaits s.own)).foldl State.giveVerdict (s.withTable (before ++ todo)) =
      s.withTable (before ++ s.judged before todo) := by
  induction todo generalizing before with
  | nil => rfl
  | cons e after ih =>
    have hrest : ((before ++ [s.judge before e after] ++ after).map (·.origin)).Nodup := by
      simpa [State.judge_origin] using hkeyed
    have hstep := ih (before ++ [s.judge before e after]) hrest
    simp only [List.append_assoc, List.singleton_append] at hstep
    by_cases ha : e.awaits s.own = true
    · rw [List.filter_cons_of_pos (p := fun d : OtherEntry => d.awaits s.own) ha, List.foldl_cons, State.giveVerdict_at hkeyed ha, hstep]
      rfl
    · have hsame : s.judge before e after = e := if_neg ha
      rw [List.filter_cons_of_neg (p := fun d : OtherEntry => d.awaits s.own) ha, State.judged, hsame]
      rw [hsame] at hstep
      exact hstep

/-- The table once every verdict has been given. -/
theorem State.giveVerdicts_others (h : (s.agreement.others.map (·.origin)).Nodup) :
    s.giveVerdicts.agreement.others = s.judged [] s.agreement.others :=
  congrArg (fun t => t.agreement.others) (s.giveVerdicts_from [] s.agreement.others h)

/-! ## The entries that the verdicts leave -/

theorem State.judged_erased (s : State) (before todo : List OtherEntry) :
    (s.judged before todo).map (fun e => { e with verdict := none }) = todo.map fun e => { e with verdict := none } := by
  induction todo generalizing before with
  | nil => rfl
  | cons e after ih =>
    have hone : { s.judge before e after with verdict := none } = { e with verdict := none } := by
      unfold State.judge; split <;> rfl
    rw [State.judged, List.map_cons, List.map_cons, ih, hone]

/-- An entry's place among those that the verdicts leave: it is judged on what the verdicts before it left. -/
theorem State.judged_at (s : State) (done before : List OtherEntry) (e : OtherEntry) (after : List OtherEntry) :
    ∃ given rest, given.length = before.length ∧
      s.judged done (before ++ e :: after) = given ++ s.judge (done ++ given) e after :: rest := by
  induction before generalizing done with
  | nil => exact ⟨[], s.judged (done ++ [s.judge done e after]) after, rfl, by rw [List.append_nil]; rfl⟩
  | cons d before ih =>
    obtain ⟨given, rest, hlen, hjudged⟩ := ih (done ++ [s.judge done d (before ++ e :: after)])
    refine ⟨s.judge done d (before ++ e :: after) :: given, rest, by simp [hlen], ?_⟩
    rw [List.cons_append, State.judged, hjudged]
    simp

/-- Every entry left is an entry that was there, judged. -/
theorem State.exists_of_mem_judged {before todo : List OtherEntry} {e : OtherEntry} (h : e ∈ s.judged before todo) :
    ∃ d done after, e = s.judge done d after := by
  induction todo generalizing before with
  | nil => exact absurd h List.not_mem_nil
  | cons d after ih =>
    rcases List.mem_cons.1 h with h | h
    · exact ⟨d, before, after, h⟩
    · exact ih h

theorem OtherEntry.awaits_iff (e : OtherEntry) (own : Station) :
    e.awaits own = true ↔ e.effective = none ∧ e.verdict = none ∧ contains e.voters own = true := by
  simp [OtherEntry.awaits, and_assoc]

/-! ## The responses (R39) -/

theorem OtherEntry.response_eq_some_iff (e : OtherEntry) (x : ResponsePart) :
    e.response = some x ↔ e.effective = none ∧ e.origin = x.origin ∧ e.serial = x.serial ∧ e.verdict = some x.verdict := by
  obtain ⟨origin, serial, verdict⟩ := x
  unfold OtherEntry.response
  cases e.effective with
  | none => cases e.verdict <;> simp
  | some c => simp

theorem Agreement.mem_responses_iff {g : Agreement} (h : (g.others.map (·.origin)).Nodup) (x : ResponsePart) :
    x ∈ g.responses ↔ ∃ e ∈ g.others, e.response = some x := by
  simp only [Agreement.responses, List.mem_filterMap, mem_allStations, true_and, Option.bind_eq_some_iff,
    Agreement.other?_eq_some_iff h]
  exact ⟨fun ⟨_, e, ⟨he, _⟩, hx⟩ => ⟨e, he, hx⟩, fun ⟨e, he, hx⟩ => ⟨e.origin, e, ⟨he, rfl⟩, hx⟩⟩

/-- Dealing with the own entry leaves the others'. -/
theorem State.dealOwnEntry_others (s : State) : s.dealOwnEntry.agreement.others = s.agreement.others := by
  unfold State.dealOwnEntry
  (repeat' split) <;> rfl

end

/-- Settles O52, from the table that the verdicts leave, entry by entry in recording order. -/
theorem verdictsAreGivenAndRepeated : Obligations.VerdictsAreGivenAndRepeated := by
  intro s timing hr hok hm ht ho
  obtain ⟨t, a, hexec, hassembled, hparts⟩ := State.ownSlotStart_parts hr ht (by rw [hm]; rfl) ho
  rw [State.dealt_member hm] at hparts
  have hlife : (s.verdictsGiven timing).dealOwnEntry.life.state = .member := by
    simp [(s.verdictsGiven_frame timing).2.2.1, hm]
  have hdealt : (s.verdictsGiven timing).dealOwnEntry.agreement.others = s.judged [] s.agreement.others :=
    (State.dealOwnEntry_others _).trans (State.giveVerdicts_others hok.keyed)
  have hothers : t.agreement.others = s.judged [] s.agreement.others := by rw [hparts.table]; exact hdealt
  have hresponses : a.responses = (s.verdictsGiven timing).dealOwnEntry.agreement.responses := (hparts.member hlife).2
  have herased := s.judged_erased [] s.agreement.others
  refine ⟨t, a, hexec, hassembled, by rw [hothers, herased], fun e he hn => ?_, fun e he heff hv => ?_,
    fun before e after hsplit hverdict heff hv => ?_, by rw [hresponses]; exact Agreement.responses_ascend _, fun x => ?_⟩
  · obtain ⟨before, after, hsplit⟩ := List.append_of_mem he
    obtain ⟨given, rest, -, hjudged⟩ := s.judged_at [] before e after
    have hkept : s.judge ([] ++ given) e after = e := if_neg fun ha => by
      obtain ⟨heff, hverdict, hv⟩ := (e.awaits_iff s.own).1 ha
      simp [heff, hverdict, hv] at hn
    rw [hothers, hsplit, hjudged, hkept]
    simp
  · rw [hothers] at he
    obtain ⟨d, done, after, rfl⟩ := State.exists_of_mem_judged he
    by_cases ha : d.awaits s.own = true
    · rw [State.judge, if_pos ha]; exact Option.some_ne_none _
    · rw [State.judge, if_neg ha] at heff hv ⊢
      exact fun hverdict => ha ((d.awaits_iff s.own).2 ⟨heff, hverdict, hv⟩)
  · intro table
    obtain ⟨given, rest, hlen, hjudged⟩ := s.judged_at [] before e after
    have hafter : t.agreement.others = given ++ s.judge given e after :: rest := by rw [hothers, hsplit, hjudged]; rfl
    have htable : table = s.withTable (given ++ e :: after) := by
      simp only [table, State.withTable, hafter, ← hlen, List.take_left]
    rw [hafter, ← hlen, List.getElem?_append_right (le_refl _), Nat.sub_self, State.judge,
      if_pos ((e.awaits_iff s.own).2 ⟨heff, hverdict, hv⟩), State.verdictOn, ← htable]
    cases table.offerCheck e.kind e.target (some e.voters) e.origin <;> rfl
  · have hkeyed : ((s.verdictsGiven timing).dealOwnEntry.agreement.others.map (·.origin)).Nodup := by
      have horigins := congrArg (List.map OtherEntry.origin) herased
      rw [List.map_map, List.map_map] at horigins
      rw [hdealt]
      exact horigins ▸ hok.keyed
    rw [hresponses, Agreement.mem_responses_iff hkeyed, hdealt, ← hothers]
    simp only [OtherEntry.response_eq_some_iff]

end Sys2Proof.Machine
end

section
/-! PROOFS. Every command completes and leaves the queue; with none waiting the due event comes, in the model's order, or a microsecond passes. -/

namespace Sys2Proof.Machine
open Sys2Proof

/-! ## No operation touches the queue -/

theorem queueKept (q : List Instr) : Kept fun s => s.pending = q where
  port _ _ h := h
  reset _ _ h := h
  complete _ _ _ h := h
  recogniseInput s n high _ h := by simpa using h
  beginTransmission s _ h := by simpa using h
  collide s _ h := by simpa using h
  isolateOnCollisions s _ h := by simpa using h
  endTransmission s _ h := by simpa using h
  receiveWhole s order _ h := by simpa using h
  abandonOnGap s _ h := by simpa using h
  abandon s why _ h := by simpa using h
  takeCharacter s data mark _ h := by simpa using h
  closeSlot s k _ h := by simpa using h
  takeBoundary s exclusionFirst _ h := by simpa using h
  takeSlotStart s _ h := by simpa using h
  expireWindow s _ h := by simpa using h
  missedLimitEvent s k _ h := by simpa using h
  finishLeaving s _ h := by simpa using h
  removeWithdrawn s _ h := by simpa using h
  takeLag s _ h := by simpa using h
  takeSilent s _ h := by simpa using h
  expireOffer s _ h := by simpa using h
  endGrace s _ h := by simpa using h
  exclude s _ h := by simpa using h
  expireQuiet s _ h := by simpa using h
  configure s record _ h := by simpa using h
  join s _ h := by simpa using h
  leave s _ h := by simpa using h
  takeOffer s kind target _ h := by simpa using h
  withdrawOffer s _ h := by simpa using h
  raiseStop s _ h := by simpa using h
  clearStop s _ h := by simpa using h
  setManualHold s hold _ h := by simpa using h
  report s p flags _ h := by simpa using h
  answerStatus s _ h := by simpa using h
  answerNotice s _ h := by simpa using h

/-! ## A step with no command waiting -/

theorem step_due {s : State} {c : Instr} (hq : s.pending = []) (h : s.due = some c) : step s = .next { s with pending := [c] } := by
  simp only [step, hq, State.idleStep, h]

theorem step_idle {s : State} (hq : s.pending = []) (h : s.due = none) : step s = .next s.passMicrosecond := by
  simp only [step, hq, State.idleStep, h]

/-! ## The counts and cycles at their limits -/

theorem dueIf_eq_some_iff {condition : Bool} {event c : Instr} : dueIf condition event = some c ↔ condition = true ∧ event = c := by
  cases condition <;> simp [dueIf]

theorem dueIf_eq_none_iff {condition : Bool} {event : Instr} : dueIf condition event = none ↔ condition = false := by
  cases condition <;> simp [dueIf]

section
variable {s : State}

theorem State.ownSlotOver_iff (s : State) : s.ownSlotOver = true ↔ OwnSlotOver s := by
  simp [State.ownSlotOver, OwnSlotOver, Option.any_eq_true]

theorem busFault_due_iff : (s.life.state.transmits && s.bus.collisions == Config.collisionLimit) = true ↔ OwnEventDue s .busFault := by
  show _ ↔ s.life.state.transmits = true ∧ s.bus.collisions = 3
  simp [Config.collisionLimit]

theorem listenWindow_due_iff :
    (s.life.state == .listening && s.life.listenTimer == some 0) = true ↔ OwnEventDue s .listenWindowExpiry := by
  show _ ↔ s.life.state = .listening ∧ s.life.listenTimer = some 0
  simp

theorem leavingComplete_due_iff :
    (s.life.state == .leaving && s.life.leavingFrames == Config.announcementLimit && s.ownSlotOver) = true ↔
      OwnEventDue s .leavingComplete := by
  show _ ↔ s.life.state = .leaving ∧ s.life.leavingFrames = 2 ∧ OwnSlotOver s
  simp [Config.announcementLimit, State.ownSlotOver_iff, and_assoc]

theorem withdrawnEntry_due_iff :
    (s.agreement.own.any (·.withdrawalDone) && s.ownSlotOver) = true ↔ OwnEventDue s .withdrawnEntryRemoved := by
  show _ ↔ (∃ e b why, s.agreement.own = some e ∧ e.phase = .withdrawn b why 2) ∧ OwnSlotOver s
  simp [State.ownSlotOver_iff, Option.any_eq_true, OwnEntry.withdrawalDone_iff]

theorem expired_due_iff : (s.slots.atBoundary && s.ownExpired.isSome) = true ↔ OwnEventDue s .expired := by
  simp only [Bool.and_eq_true, Option.isSome_iff_exists, Prod.exists, State.ownExpired_eq_some_iff]
  rfl

theorem gracePeriod_due_iff :
    (s.slots.atBoundary && s.life.state.transmits && s.agreement.others.any s.graceOver) = true ↔ OwnEventDue s .gracePeriod := by
  simp only [Bool.and_eq_true, and_assoc, List.any_eq_true, State.graceOver_iff]
  rfl

theorem excluded_due_iff : (s.life.state == .member && s.life.exclusion == Config.exclusionLimit) = true ↔ OwnEventDue s .excluded := by
  show _ ↔ s.life.state = .member ∧ s.life.exclusion = 2
  simp [Config.exclusionLimit]

theorem quietCount_due_iff :
    (s.life.state == .joining && s.life.quiet == s.missedLimit) = true ↔ OwnEventDue s .quietCountExpiry := by
  show _ ↔ s.life.state = .joining ∧ s.life.quiet = s.cfg.missedLimit.toNat
  simp [State.missedLimit]

/-- A station named is one whose missed count is at M. -/
theorem State.missedDueStation_some {k : Station} (h : s.missedDueStation = some k) : OwnEventDue s (.missedLimit k) := by
  unfold State.missedDueStation at h
  split at h
  next hc => exact (s.missedDue_iff k).1 (by rw [hc, List.find?_some h]; rfl)
  · exact nomatch h

/-- No station is named only where none is at M. -/
theorem State.missedDueStation_none (h : s.missedDueStation = none) (k : Station) : ¬ OwnEventDue s (.missedLimit k) := by
  intro hd
  obtain ⟨hc, hk⟩ := Bool.and_eq_true_iff.1 ((s.missedDue_iff k).2 hd)
  rw [State.missedDueStation, if_pos hc, List.find?_eq_none] at h
  exact h k (mem_allStations k) hk

/-- An event of the slot timer. -/
def Instr.ofSlotTimer : Instr → Bool
  | .slotClose _ | .ownSlotStart | .cycleBoundary _ => true
  | _ => false

/-- The limit that is taken has been reached, and it is no event of the slot timer. -/
theorem State.limitDue_some {c : Instr} (h : s.limitDue = some c) : OwnEventDue s c ∧ Instr.ofSlotTimer c = false := by
  simp only [State.limitDue, Option.orElse_eq_orElse, Option.orElse_eq_or, Option.or_eq_some_iff, dueIf_eq_some_iff,
    Option.map_eq_some_iff] at h
  rcases h with ⟨h, rfl⟩ | ⟨-, ⟨h, rfl⟩ | ⟨-, ⟨h, rfl⟩ | ⟨-, ⟨h, rfl⟩ | ⟨-, ⟨k, h, rfl⟩ | ⟨-, ⟨h, rfl⟩ | ⟨-, ⟨h, rfl⟩ | ⟨-, ⟨h, rfl⟩ |
    ⟨-, ⟨h, rfl⟩ | ⟨-, ⟨h, rfl⟩ | ⟨-, h, rfl⟩⟩⟩⟩⟩⟩⟩⟩⟩⟩
  · exact ⟨(lagDue_iff _ _).1 h, rfl⟩
  · exact ⟨h, rfl⟩
  · exact ⟨busFault_due_iff.1 h, rfl⟩
  · exact ⟨listenWindow_due_iff.1 h, rfl⟩
  · exact ⟨State.missedDueStation_some h, rfl⟩
  · exact ⟨leavingComplete_due_iff.1 h, rfl⟩
  · exact ⟨withdrawnEntry_due_iff.1 h, rfl⟩
  · exact ⟨expired_due_iff.1 h, rfl⟩
  · exact ⟨gracePeriod_due_iff.1 h, rfl⟩
  · exact ⟨excluded_due_iff.1 h, rfl⟩
  · exact ⟨quietCount_due_iff.1 h, rfl⟩

/-! ## The end of processing (R153) -/

theorem State.responseDue_eq (s : State) {p : Processing} (h : s.port.buffer = .pending p) : s.responseDue =
    dueIf ((s.inReset || p.answer.isSome) && decide (p.since + Config.processingLimit ≤ s.slots.now)) .responseReady := by
  simp only [State.responseDue, h]

/-- The end of processing comes 25 us after it began, for a request with an answer, or in reset (R153, R159). -/
theorem State.responseDue_some_iff (s : State) (c : Instr) : s.responseDue = some c ↔ c = .responseReady ∧
    ∃ p : Processing, s.port.buffer = .pending p ∧ (s.inReset = true ∨ p.answer.isSome = true) ∧ p.since + 25 ≤ s.slots.now := by
  cases hb : s.port.buffer with
  | empty => simp [State.responseDue, hb]
  | ready b => simp [State.responseDue, hb]
  | pending p =>
    rw [s.responseDue_eq hb, dueIf_eq_some_iff, Bool.and_eq_true, Bool.or_eq_true, decide_eq_true_iff]
    refine ⟨fun ⟨⟨hready, hnow⟩, hc⟩ => ⟨hc.symm, p, rfl, hready, hnow⟩, fun ⟨hc, q, hq, hready, hnow⟩ => ?_⟩
    cases hq
    exact ⟨⟨hready, hnow⟩, hc.symm⟩

/-! ## The transmission (R123) -/

theorem State.transmitDue_idle {a : Assembled} (ha : s.assembled = some a) (hb : s.bus.transmit = .idle) : s.transmitDue =
    dueIf (s.life.state.transmits && decide (a.startedAt + Config.transmitOffset ≤ s.slots.now)) .transmitOffset := by
  simp only [State.transmitDue, ha, hb]

theorem State.transmitDue_sending {a : Assembled} {characters : List BusCharacter} (ha : s.assembled = some a)
    (hb : s.bus.transmit = .sending characters) : s.transmitDue =
    dueIf (decide (4 * (a.startedAt + Config.transmitOffset) + frameQuarters s.cfg.rateCode characters.length ≤ 4 * s.slots.now))
      .transmitEnd := by
  simp only [State.transmitDue, ha, hb]

/-- The bus port's event that is taken has come. -/
theorem State.transmitDue_some {c : Instr} (h : s.transmitDue = some c) : OwnEventDue s c ∧ Instr.ofSlotTimer c = false := by
  cases ha : s.assembled with
  | none => simp only [State.transmitDue, ha] at h; exact nomatch h
  | some a =>
    cases hb : s.bus.transmit with
    | idle =>
      rw [State.transmitDue_idle ha hb, dueIf_eq_some_iff, Bool.and_eq_true, decide_eq_true_iff] at h
      obtain ⟨⟨ht, hnow⟩, rfl⟩ := h
      exact ⟨⟨ht, hb, a, ha, hnow⟩, rfl⟩
    | sending characters =>
      rw [State.transmitDue_sending ha hb, dueIf_eq_some_iff, decide_eq_true_iff] at h
      obtain ⟨hnow, rfl⟩ := h
      exact ⟨⟨a, characters, ha, hb, hnow⟩, rfl⟩

/-- The bus port has no event only where neither of its two has come. -/
theorem State.transmitDue_none (h : s.transmitDue = none) : ¬ OwnEventDue s .transmitOffset ∧ ¬ OwnEventDue s .transmitEnd := by
  refine ⟨fun ⟨ht, hb, a, ha, hnow⟩ => ?_, fun ⟨a, characters, ha, hb, hnow⟩ => ?_⟩
  · rw [State.transmitDue_idle ha hb, dueIf_eq_none_iff, ht, Bool.true_and, decide_eq_false_iff_not] at h
    exact h hnow
  · rw [State.transmitDue_sending ha hb, dueIf_eq_none_iff, decide_eq_false_iff_not] at h
    exact h hnow

/-! ## The slot timer (R131) -/

section
variable {t : Timing}

theorem State.slotStartDue_iff (s : State) (t : Timing) : s.slotStartDue t = true ↔
    s.life.state.transmits = true ∧ t.ownStartRaised = false ∧ t.slotStart s.slotLength s.own ≤ s.slots.now := by
  simp [State.slotStartDue, and_assoc]

theorem State.mem_closesDue (s : State) (t : Timing) (j : Station) : j ∈ s.closesDue t ↔
    contains t.closesRaised j = false ∧ t.slotStart s.slotLength j + s.slotLength ≤ s.slots.now := by
  simp [State.closesDue, mem_allStations]

/-- The closes due stand in ascending order. -/
theorem State.closesDue_ascend (s : State) (t : Timing) : (s.closesDue t).Pairwise (· < ·) := (List.pairwise_lt_finRange 16).filter _

/-- The first close due is that of the lowest slot. -/
theorem State.closesDue_first {s : State} {j k : Station} {rest : List Station} (hc : s.closesDue t = j :: rest) (hk : k ∈ s.closesDue t) :
    j.val ≤ k.val := by
  have hsorted := s.closesDue_ascend t
  rw [hc] at hsorted hk
  rcases List.mem_cons.1 hk with rfl | hk
  · exact le_refl _
  · exact (List.rel_of_pairwise_cons hsorted hk).le

/-- The cycle ends with slot 16. -/
theorem Timing.cycleEnd_eq (t : Timing) (slotLength : Nat) : t.cycleEnd slotLength = t.slotStart slotLength 15 + slotLength := by
  have hlast : (((15 : Station).val : Nat) : Int) = 15 := rfl
  simp only [Timing.cycleEnd, Timing.slotStart, hlast]
  ring

theorem State.slotEventDue_untimed (ht : s.slots.timing = none) : s.slotEventDue = none := by
  simp only [State.slotEventDue, ht]

theorem State.slotEventDue_late (ht : s.slots.timing = some t) (hl : t.lateClose.isSome = true) :
    s.slotEventDue = some (.slotClose 15) := by
  simp only [State.slotEventDue, ht, hl, if_true]

theorem State.slotEventDue_closing {j : Station} {rest : List Station} (ht : s.slots.timing = some t) (hl : t.lateClose.isSome = false)
    (hc : s.closesDue t = j :: rest) :
    s.slotEventDue = if s.slotStartDue t = true ∧ s.own.val ≤ j.val then some .ownSlotStart else some (.slotClose j) := by
  simp [State.slotEventDue, ht, hl, hc]

theorem State.slotEventDue_closed (ht : s.slots.timing = some t) (hl : t.lateClose.isSome = false) (hc : s.closesDue t = []) :
    s.slotEventDue = (dueIf (s.slotStartDue t) .ownSlotStart).or
      (dueIf (decide (t.cycleEnd s.slotLength ≤ s.slots.now)) (.cycleBoundary false)) := by
  simp [State.slotEventDue, ht, hl, hc]

/-- What the slot timer raises, by the timing: the late close, the first close or the own-slot start before it, the own-slot start after every
close, or the boundary after both. -/
theorem State.slotEventDue_some {c : Instr} (h : s.slotEventDue = some c) : ∃ t, s.slots.timing = some t ∧
    ((t.lateClose.isSome = true ∧ c = .slotClose 15) ∨ t.lateClose.isSome = false ∧
      ((∃ j rest, s.closesDue t = j :: rest ∧ ((c = .ownSlotStart ∧ s.slotStartDue t = true ∧ s.own.val ≤ j.val) ∨
          (c = .slotClose j ∧ ¬ (s.slotStartDue t = true ∧ s.own.val ≤ j.val)))) ∨
        s.closesDue t = [] ∧ ((c = .ownSlotStart ∧ s.slotStartDue t = true) ∨
          (c = .cycleBoundary false ∧ s.slotStartDue t = false ∧ t.cycleEnd s.slotLength ≤ s.slots.now)))) := by
  cases ht : s.slots.timing with
  | none => rw [State.slotEventDue_untimed ht] at h; exact nomatch h
  | some t =>
    refine ⟨t, rfl, ?_⟩
    cases hl : t.lateClose.isSome with
    | true =>
      rw [State.slotEventDue_late ht hl] at h
      exact .inl ⟨rfl, (Option.some.inj h).symm⟩
    | false =>
      refine .inr ⟨rfl, ?_⟩
      cases hc : s.closesDue t with
      | cons j rest =>
        rw [State.slotEventDue_closing ht hl hc] at h
        split at h
        next hs => exact .inl ⟨j, rest, rfl, .inl ⟨(Option.some.inj h).symm, hs⟩⟩
        next hs => exact .inl ⟨j, rest, rfl, .inr ⟨(Option.some.inj h).symm, hs⟩⟩
      | nil =>
        rw [State.slotEventDue_closed ht hl hc, Option.or_eq_some_iff, dueIf_eq_some_iff, dueIf_eq_some_iff, dueIf_eq_none_iff,
          decide_eq_true_iff] at h
        rcases h with ⟨hs, rfl⟩ | ⟨hs, hend, rfl⟩
        · exact .inr ⟨rfl, .inl ⟨rfl, hs⟩⟩
        · exact .inr ⟨rfl, .inr ⟨rfl, hs, hend⟩⟩

theorem ownSlotStart_due_iff (ht : s.slots.timing = some t) : OwnEventDue s .ownSlotStart ↔ s.slotStartDue t = true := by
  rw [State.slotStartDue_iff]
  exact ⟨fun ⟨hl, u, hu, ho, hnow⟩ => by cases ht.symm.trans hu; exact ⟨hl, ho, hnow⟩, fun ⟨hl, ho, hnow⟩ => ⟨hl, t, ht, ho, hnow⟩⟩

theorem slotClose_due_iff (ht : s.slots.timing = some t) (j : Station) : OwnEventDue s (.slotClose j) ↔
    (t.lateClose.isSome = true ∧ j.val = 15) ∨ j ∈ s.closesDue t := by
  rw [State.mem_closesDue]
  exact ⟨fun ⟨u, hu, h⟩ => by cases ht.symm.trans hu; exact h, fun h => ⟨t, ht, h⟩⟩

theorem cycleBoundary_due_iff (ht : s.slots.timing = some t) (exclusionFirst : Bool) : OwnEventDue s (.cycleBoundary exclusionFirst) ↔
    exclusionFirst = false ∧ t.cycleEnd s.slotLength ≤ s.slots.now := by
  rw [Timing.cycleEnd_eq]
  exact ⟨fun ⟨he, u, hu, h⟩ => by cases ht.symm.trans hu; exact ⟨he, h⟩, fun ⟨he, h⟩ => ⟨he, t, ht, h⟩⟩

/-- What the slot timer raises has come. -/
theorem State.slotEventDue_sound {c : Instr} (h : s.slotEventDue = some c) : OwnEventDue s c := by
  obtain ⟨t, ht, ⟨hl, rfl⟩ | ⟨-, ⟨j, rest, hc, ⟨rfl, hs, -⟩ | ⟨rfl, -⟩⟩ | ⟨-, ⟨rfl, hs⟩ | ⟨rfl, -, hend⟩⟩⟩⟩ := State.slotEventDue_some h
  · exact (slotClose_due_iff ht 15).2 (.inl ⟨hl, rfl⟩)
  · exact (ownSlotStart_due_iff ht).2 hs
  · exact (slotClose_due_iff ht j).2 (.inr (by rw [hc]; exact List.mem_cons_self))
  · exact (ownSlotStart_due_iff ht).2 hs
  · exact (cycleBoundary_due_iff ht false).2 ⟨rfl, hend⟩

/-- The slot timer raises nothing only where none of its events has come. -/
theorem State.slotEventDue_none (h : s.slotEventDue = none) : (∀ j, ¬ OwnEventDue s (.slotClose j)) ∧ ¬ OwnEventDue s .ownSlotStart ∧
    ∀ exclusionFirst, ¬ OwnEventDue s (.cycleBoundary exclusionFirst) := by
  cases ht : s.slots.timing with
  | none =>
    refine ⟨fun j ⟨t, htime, _⟩ => ?_, fun ⟨_, t, htime, _⟩ => ?_, fun _ ⟨_, t, htime, _⟩ => ?_⟩
    all_goals exact nomatch ht.symm.trans htime
  | some t =>
    cases hl : t.lateClose.isSome with
    | true => exact nomatch (State.slotEventDue_late ht hl).symm.trans h
    | false =>
      cases hc : s.closesDue t with
      | cons j rest =>
        rw [State.slotEventDue_closing ht hl hc] at h
        split at h <;> exact nomatch h
      | nil =>
        rw [State.slotEventDue_closed ht hl hc, Option.or_eq_none_iff, dueIf_eq_none_iff, dueIf_eq_none_iff,
          decide_eq_false_iff_not] at h
        refine ⟨fun j => ?_, ?_, fun exclusionFirst => ?_⟩
        · rw [slotClose_due_iff ht, hl, hc]; simp
        · rw [ownSlotStart_due_iff ht, h.1]; simp
        · rw [cycleBoundary_due_iff ht]; exact fun hd => h.2 hd.2

end

end

/-! ## The event that has come, of all blocks -/

section
variable {s : State}

theorem State.due_held (h : s.inReset = true) : s.due = s.responseDue := if_pos h

theorem State.due_free (h : s.inReset = false) :
    s.due = s.limitDue.or (s.responseDue.or (s.transmitDue.or s.slotEventDue)) := by
  simp [State.due, h]

/-- Out of reset the end of processing is that of a request with an answer. -/
theorem State.responseDue_some {c : Instr} (hr : s.inReset = false) (h : s.responseDue = some c) :
    OwnEventDue s c ∧ Instr.ofSlotTimer c = false := by
  obtain ⟨rfl, p, hb, ha, hnow⟩ := (s.responseDue_some_iff c).1 h
  exact ⟨⟨p, hb, ha.resolve_left (by simp [hr]), hnow⟩, rfl⟩

theorem State.responseDue_none (h : s.responseDue = none) : ¬ OwnEventDue s .responseReady := fun ⟨p, hb, ha, hnow⟩ => by
  rw [(s.responseDue_some_iff .responseReady).2 ⟨rfl, p, hb, .inr ha, hnow⟩] at h
  exact nomatch h

/-- The event taken has come. -/
theorem State.due_sound {c : Instr} (h : s.due = some c) : EventDue s c := by
  cases hr : s.inReset with
  | true =>
    rw [State.due_held hr] at h
    obtain ⟨rfl, p, hb, -, hnow⟩ := (s.responseDue_some_iff c).1 h
    exact .inr ⟨hr, rfl, p, hb, hnow⟩
  | false =>
    rw [State.due_free hr, Option.or_eq_some_iff, Option.or_eq_some_iff, Option.or_eq_some_iff] at h
    refine .inl ⟨hr, ?_⟩
    rcases h with h | ⟨-, h | ⟨-, h | ⟨-, h⟩⟩⟩
    · exact (State.limitDue_some h).1
    · exact (State.responseDue_some hr h).1
    · exact (State.transmitDue_some h).1
    · exact State.slotEventDue_sound h

/-- With no event taken none of the station's own blocks' has come. -/
theorem State.due_complete (hr : s.inReset = false) (h : s.due = none) (c : Instr) : ¬ OwnEventDue s c := by
  rw [State.due_free hr, Option.or_eq_none_iff, Option.or_eq_none_iff, Option.or_eq_none_iff] at h
  obtain ⟨hlimit, hresponse, htransmit, hslot⟩ := h
  simp only [State.limitDue, Option.orElse_eq_orElse, Option.orElse_eq_or, Option.or_eq_none_iff, dueIf_eq_none_iff,
    Option.map_eq_none_iff, ← Bool.not_eq_true] at hlimit
  obtain ⟨hlag, hsilent, hfault, hwindow, hmissed, hleaving, hwithdrawn, hexpired, hgrace, hexcluded, hquiet⟩ := hlimit
  obtain ⟨hclose, hstart, hboundary⟩ := State.slotEventDue_none hslot
  cases c with
  | lagHold => exact mt (lagDue_iff _ _).2 hlag
  | localSilent => exact hsilent
  | busFault => exact mt busFault_due_iff.2 hfault
  | listenWindowExpiry => exact mt listenWindow_due_iff.2 hwindow
  | missedLimit k => exact State.missedDueStation_none hmissed k
  | leavingComplete => exact mt leavingComplete_due_iff.2 hleaving
  | withdrawnEntryRemoved => exact mt withdrawnEntry_due_iff.2 hwithdrawn
  | expired => exact mt expired_due_iff.2 hexpired
  | gracePeriod => exact mt gracePeriod_due_iff.2 hgrace
  | excluded => exact mt excluded_due_iff.2 hexcluded
  | quietCountExpiry => exact mt quietCount_due_iff.2 hquiet
  | responseReady => exact State.responseDue_none hresponse
  | transmitOffset => exact (State.transmitDue_none htransmit).1
  | transmitEnd => exact (State.transmitDue_none htransmit).2
  | slotClose j => exact hclose j
  | ownSlotStart => exact hstart
  | cycleBoundary exclusionFirst => exact hboundary exclusionFirst
  | powerOn | resetN | resetComplete _ | stopInputRecognised _ _ | transactionStart | shortTransaction _ | badFormat _
  | unknownRequest _ | transactionDiscarded | nop | configure _ | join | leave | offerStart _ | offerRamp _ | withdrawOffer | raiseStop
  | clearStop | setHold | releaseHold | report _ _ | readSetpoint | readStatus | readRoster _ | readProposal _ | readNotice | readConfig
  | restart | collision | receivedWhole _ | gap | frameAbandoned _ | characterReceived _ _ => exact id

/-- An event of the slot timer is taken only where it raises it. -/
theorem State.slotEventDue_of_due {c : Instr} (hr : s.inReset = false) (hc : Instr.ofSlotTimer c = true) (h : s.due = some c) :
    s.slotEventDue = some c := by
  rw [State.due_free hr, Option.or_eq_some_iff, Option.or_eq_some_iff, Option.or_eq_some_iff] at h
  rcases h with h | ⟨-, h | ⟨-, h | ⟨-, h⟩⟩⟩
  · exact absurd hc (by simp [(State.limitDue_some h).2])
  · exact absurd hc (by simp [(State.responseDue_some hr h).2])
  · exact absurd hc (by simp [(State.transmitDue_some h).2])
  · exact h

/-- LAG_HOLD comes before every other event. -/
theorem State.due_lagHold (hr : s.inReset = false) (h : OwnEventDue s .lagHold) : s.due = some .lagHold := by
  rw [State.due_free hr, State.limitDue, dueIf, if_pos ((lagDue_iff _ _).2 h)]
  rfl

/-- LOCAL_SILENT comes before every event but LAG_HOLD. -/
theorem State.due_localSilent (hr : s.inReset = false) (h : OwnEventDue s .localSilent) (hn : ¬ OwnEventDue s .lagHold) :
    s.due = some .localSilent := by
  rw [State.due_free hr, State.limitDue, dueIf, if_neg (mt (lagDue_iff _ _).1 hn), dueIf, if_pos (by exact h)]
  rfl

end

/-- Settles O2: the queue by what every operation keeps, the due event by the blocks, and the order by the slot timer's. -/
theorem commandsCompleteAndTimePasses : Obligations.CommandsCompleteAndTimePasses := by
  have hfree {s : State} (hr : s.inReset = false) {c : Instr} : EventDue s c ↔ OwnEventDue s c := by simp [EventDue, hr]
  refine ⟨fun c s => (queueKept s.pending).exec c rfl, fun s hq => ⟨fun c hd => step_due hq hd, fun hd => step_idle hq hd⟩,
    fun s => ⟨fun c => State.due_sound, fun hd c => ?none⟩, fun s hr => ⟨fun h => State.due_lagHold hr ((hfree hr).1 h),
      fun h hn => State.due_localSilent hr ((hfree hr).1 h) (mt (hfree hr).2 hn), fun exclusionFirst hd => ?boundary,
      fun t ht hl => ⟨fun j hd => ?close, fun hd k hk => ?start⟩⟩⟩
  case none =>
    rintro (⟨hr, h⟩ | ⟨hr, -, p, hb, hnow⟩)
    · exact State.due_complete hr hd c h
    · rw [State.due_held hr, (s.responseDue_some_iff .responseReady).2 ⟨rfl, p, hb, .inl hr, hnow⟩] at hd
      exact nomatch hd
  case boundary =>
    obtain ⟨t, ht, ⟨-, ⟨⟩⟩ | ⟨hl, ⟨j, rest, -, ⟨⟨⟩, -⟩ | ⟨⟨⟩, -⟩⟩ | ⟨hclosed, ⟨⟨⟩, -⟩ | ⟨-, hstart, -⟩⟩⟩⟩ :=
      State.slotEventDue_some (State.slotEventDue_of_due hr rfl hd)
    refine ⟨?_, fun j => ?_⟩
    · rw [hfree hr, ownSlotStart_due_iff ht, hstart]; simp
    · rw [hfree hr, slotClose_due_iff ht, hl, hclosed]; simp
  case close =>
    obtain ⟨u, hu, ⟨hlate, -⟩ | ⟨-, ⟨i, rest, hfirst, ⟨⟨⟩, -⟩ | ⟨⟨⟩, hbefore⟩⟩ | ⟨-, ⟨⟨⟩, -⟩ | ⟨⟨⟩, -⟩⟩⟩⟩ :=
      State.slotEventDue_some (State.slotEventDue_of_due hr rfl hd)
    all_goals obtain rfl : t = u := Option.some.inj (ht.symm.trans hu)
    · simp [hl] at hlate
    · refine ⟨fun hstart => ?_, fun k hk => ?_⟩
      · rw [hfree hr, ownSlotStart_due_iff ht] at hstart
        exact Nat.lt_of_not_le fun h => hbefore ⟨hstart, h⟩
      · rw [hfree hr, slotClose_due_iff ht, hl] at hk
        exact State.closesDue_first hfirst (hk.resolve_left (by simp))
  case start =>
    obtain ⟨u, hu, ⟨-, ⟨⟩⟩ | ⟨-, ⟨i, rest, hfirst, ⟨-, -, hbefore⟩ | ⟨⟨⟩, -⟩⟩ | ⟨hclosed, -⟩⟩⟩ :=
      State.slotEventDue_some (State.slotEventDue_of_due hr rfl hd)
    all_goals
      obtain rfl : t = u := Option.some.inj (ht.symm.trans hu)
      rw [hfree hr, slotClose_due_iff ht, hl] at hk
    · exact hbefore.trans (State.closesDue_first hfirst (hk.resolve_left (by simp)))
    · simp [hclosed] at hk

end Sys2Proof.Machine
end
